-- ==== Sys2Proof/Word.lean ====
section
/-! DEFINITION. The word types of CORE: bytes, 16-bit words (00_scope R7) and the characters of its debug texts. -/

namespace Sys2Proof

/-- A byte: an 8-bit unsigned value (R7). -/
abbrev Byte := BitVec 8

/-- A word: a 16-bit unsigned value, an address or the program counter (R7). -/
abbrev Word := BitVec 16

/-- A text of the trace (60_exceptions R300 to R302), as its characters. -/
abbrev Text := List Char

end Sys2Proof
end

