-- ==== Sys2Proof/Syntax.lean ====
section
/-! DEFINITION. The instructions of CORE, one constructor per row of spec/opcode_table.json (30_encoding R86), each with
its operand as the operand bytes spell it (R81, R83): a byte for the two-byte formats, a word (byte 2 : byte 1) for the
three-byte ones. The order is that of the instruction files 43 to 48. -/

namespace Sys2Proof

/-- The 151 instructions of the opcode ROM (R86). -/
inductive Instr where
  /-- `LDA #v`, opcode 0xA9, mode IMM: R160, R123. -/
  | ldaImm (v : Byte)
  /-- `LDA z`, opcode 0xA5, mode ZP: R160, R124. -/
  | ldaZp (z : Byte)
  /-- `LDA z,X`, opcode 0xB5, mode ZPX: R160, R125. -/
  | ldaZpx (z : Byte)
  /-- `LDA addr`, opcode 0xAD, mode ABS: R160, R127. -/
  | ldaAbs (addr : Word)
  /-- `LDA base,X`, opcode 0xBD, mode ABX: R160, R128. -/
  | ldaAbx (base : Word)
  /-- `LDA base,Y`, opcode 0xB9, mode ABY: R160, R129. -/
  | ldaAby (base : Word)
  /-- `LDA (z,X)`, opcode 0xA1, mode IZX: R160, R131. -/
  | ldaIzx (z : Byte)
  /-- `LDA (z),Y`, opcode 0xB1, mode IZY: R160, R132. -/
  | ldaIzy (z : Byte)
  /-- `LDX #v`, opcode 0xA2, mode IMM: R161, R123. -/
  | ldxImm (v : Byte)
  /-- `LDX z`, opcode 0xA6, mode ZP: R161, R124. -/
  | ldxZp (z : Byte)
  /-- `LDX z,Y`, opcode 0xB6, mode ZPY: R161, R126. -/
  | ldxZpy (z : Byte)
  /-- `LDX addr`, opcode 0xAE, mode ABS: R161, R127. -/
  | ldxAbs (addr : Word)
  /-- `LDX base,Y`, opcode 0xBE, mode ABY: R161, R129. -/
  | ldxAby (base : Word)
  /-- `LDY #v`, opcode 0xA0, mode IMM: R162, R123. -/
  | ldyImm (v : Byte)
  /-- `LDY z`, opcode 0xA4, mode ZP: R162, R124. -/
  | ldyZp (z : Byte)
  /-- `LDY z,X`, opcode 0xB4, mode ZPX: R162, R125. -/
  | ldyZpx (z : Byte)
  /-- `LDY addr`, opcode 0xAC, mode ABS: R162, R127. -/
  | ldyAbs (addr : Word)
  /-- `LDY base,X`, opcode 0xBC, mode ABX: R162, R128. -/
  | ldyAbx (base : Word)
  /-- `STA z`, opcode 0x85, mode ZP: R163, R124. -/
  | staZp (z : Byte)
  /-- `STA z,X`, opcode 0x95, mode ZPX: R163, R125. -/
  | staZpx (z : Byte)
  /-- `STA addr`, opcode 0x8D, mode ABS: R163, R127. -/
  | staAbs (addr : Word)
  /-- `STA base,X`, opcode 0x9D, mode ABX: R163, R128. -/
  | staAbx (base : Word)
  /-- `STA base,Y`, opcode 0x99, mode ABY: R163, R129. -/
  | staAby (base : Word)
  /-- `STA (z,X)`, opcode 0x81, mode IZX: R163, R131. -/
  | staIzx (z : Byte)
  /-- `STA (z),Y`, opcode 0x91, mode IZY: R163, R132. -/
  | staIzy (z : Byte)
  /-- `STX z`, opcode 0x86, mode ZP: R164, R124. -/
  | stxZp (z : Byte)
  /-- `STX z,Y`, opcode 0x96, mode ZPY: R164, R126. -/
  | stxZpy (z : Byte)
  /-- `STX addr`, opcode 0x8E, mode ABS: R164, R127. -/
  | stxAbs (addr : Word)
  /-- `STY z`, opcode 0x84, mode ZP: R165, R124. -/
  | styZp (z : Byte)
  /-- `STY z,X`, opcode 0x94, mode ZPX: R165, R125. -/
  | styZpx (z : Byte)
  /-- `STY addr`, opcode 0x8C, mode ABS: R165, R127. -/
  | styAbs (addr : Word)
  /-- `TAX`, opcode 0xAA, mode IMP: R170, R121. -/
  | tax
  /-- `TAY`, opcode 0xA8, mode IMP: R171, R121. -/
  | tay
  /-- `TXA`, opcode 0x8A, mode IMP: R172, R121. -/
  | txa
  /-- `TYA`, opcode 0x98, mode IMP: R173, R121. -/
  | tya
  /-- `TSX`, opcode 0xBA, mode IMP: R174, R121. -/
  | tsx
  /-- `TXS`, opcode 0x9A, mode IMP: R175, R121. -/
  | txs
  /-- `PHA`, opcode 0x48, mode IMP: R180, R121. -/
  | pha
  /-- `PHP`, opcode 0x08, mode IMP: R181, R121. -/
  | php
  /-- `PLA`, opcode 0x68, mode IMP: R182, R121. -/
  | pla
  /-- `PLP`, opcode 0x28, mode IMP: R185, R121. -/
  | plp
  /-- `ADC #v`, opcode 0x69, mode IMM: R190, R123. -/
  | adcImm (v : Byte)
  /-- `ADC z`, opcode 0x65, mode ZP: R190, R124. -/
  | adcZp (z : Byte)
  /-- `ADC z,X`, opcode 0x75, mode ZPX: R190, R125. -/
  | adcZpx (z : Byte)
  /-- `ADC addr`, opcode 0x6D, mode ABS: R190, R127. -/
  | adcAbs (addr : Word)
  /-- `ADC base,X`, opcode 0x7D, mode ABX: R190, R128. -/
  | adcAbx (base : Word)
  /-- `ADC base,Y`, opcode 0x79, mode ABY: R190, R129. -/
  | adcAby (base : Word)
  /-- `ADC (z,X)`, opcode 0x61, mode IZX: R190, R131. -/
  | adcIzx (z : Byte)
  /-- `ADC (z),Y`, opcode 0x71, mode IZY: R190, R132. -/
  | adcIzy (z : Byte)
  /-- `SBC #v`, opcode 0xE9, mode IMM: R192, R123. -/
  | sbcImm (v : Byte)
  /-- `SBC z`, opcode 0xE5, mode ZP: R192, R124. -/
  | sbcZp (z : Byte)
  /-- `SBC z,X`, opcode 0xF5, mode ZPX: R192, R125. -/
  | sbcZpx (z : Byte)
  /-- `SBC addr`, opcode 0xED, mode ABS: R192, R127. -/
  | sbcAbs (addr : Word)
  /-- `SBC base,X`, opcode 0xFD, mode ABX: R192, R128. -/
  | sbcAbx (base : Word)
  /-- `SBC base,Y`, opcode 0xF9, mode ABY: R192, R129. -/
  | sbcAby (base : Word)
  /-- `SBC (z,X)`, opcode 0xE1, mode IZX: R192, R131. -/
  | sbcIzx (z : Byte)
  /-- `SBC (z),Y`, opcode 0xF1, mode IZY: R192, R132. -/
  | sbcIzy (z : Byte)
  /-- `CMP #v`, opcode 0xC9, mode IMM: R193, R123. -/
  | cmpImm (v : Byte)
  /-- `CMP z`, opcode 0xC5, mode ZP: R193, R124. -/
  | cmpZp (z : Byte)
  /-- `CMP z,X`, opcode 0xD5, mode ZPX: R193, R125. -/
  | cmpZpx (z : Byte)
  /-- `CMP addr`, opcode 0xCD, mode ABS: R193, R127. -/
  | cmpAbs (addr : Word)
  /-- `CMP base,X`, opcode 0xDD, mode ABX: R193, R128. -/
  | cmpAbx (base : Word)
  /-- `CMP base,Y`, opcode 0xD9, mode ABY: R193, R129. -/
  | cmpAby (base : Word)
  /-- `CMP (z,X)`, opcode 0xC1, mode IZX: R193, R131. -/
  | cmpIzx (z : Byte)
  /-- `CMP (z),Y`, opcode 0xD1, mode IZY: R193, R132. -/
  | cmpIzy (z : Byte)
  /-- `CPX #v`, opcode 0xE0, mode IMM: R194, R123. -/
  | cpxImm (v : Byte)
  /-- `CPX z`, opcode 0xE4, mode ZP: R194, R124. -/
  | cpxZp (z : Byte)
  /-- `CPX addr`, opcode 0xEC, mode ABS: R194, R127. -/
  | cpxAbs (addr : Word)
  /-- `CPY #v`, opcode 0xC0, mode IMM: R195, R123. -/
  | cpyImm (v : Byte)
  /-- `CPY z`, opcode 0xC4, mode ZP: R195, R124. -/
  | cpyZp (z : Byte)
  /-- `CPY addr`, opcode 0xCC, mode ABS: R195, R127. -/
  | cpyAbs (addr : Word)
  /-- `INC z`, opcode 0xE6, mode ZP: R196, R124. -/
  | incZp (z : Byte)
  /-- `INC z,X`, opcode 0xF6, mode ZPX: R196, R125. -/
  | incZpx (z : Byte)
  /-- `INC addr`, opcode 0xEE, mode ABS: R196, R127. -/
  | incAbs (addr : Word)
  /-- `INC base,X`, opcode 0xFE, mode ABX: R196, R128. -/
  | incAbx (base : Word)
  /-- `INX`, opcode 0xE8, mode IMP: R197, R121. -/
  | inx
  /-- `INY`, opcode 0xC8, mode IMP: R198, R121. -/
  | iny
  /-- `DEC z`, opcode 0xC6, mode ZP: R199, R124. -/
  | decZp (z : Byte)
  /-- `DEC z,X`, opcode 0xD6, mode ZPX: R199, R125. -/
  | decZpx (z : Byte)
  /-- `DEC addr`, opcode 0xCE, mode ABS: R199, R127. -/
  | decAbs (addr : Word)
  /-- `DEC base,X`, opcode 0xDE, mode ABX: R199, R128. -/
  | decAbx (base : Word)
  /-- `DEX`, opcode 0xCA, mode IMP: R200, R121. -/
  | dex
  /-- `DEY`, opcode 0x88, mode IMP: R201, R121. -/
  | dey
  /-- `AND #v`, opcode 0x29, mode IMM: R210, R123. -/
  | andImm (v : Byte)
  /-- `AND z`, opcode 0x25, mode ZP: R210, R124. -/
  | andZp (z : Byte)
  /-- `AND z,X`, opcode 0x35, mode ZPX: R210, R125. -/
  | andZpx (z : Byte)
  /-- `AND addr`, opcode 0x2D, mode ABS: R210, R127. -/
  | andAbs (addr : Word)
  /-- `AND base,X`, opcode 0x3D, mode ABX: R210, R128. -/
  | andAbx (base : Word)
  /-- `AND base,Y`, opcode 0x39, mode ABY: R210, R129. -/
  | andAby (base : Word)
  /-- `AND (z,X)`, opcode 0x21, mode IZX: R210, R131. -/
  | andIzx (z : Byte)
  /-- `AND (z),Y`, opcode 0x31, mode IZY: R210, R132. -/
  | andIzy (z : Byte)
  /-- `ORA #v`, opcode 0x09, mode IMM: R211, R123. -/
  | oraImm (v : Byte)
  /-- `ORA z`, opcode 0x05, mode ZP: R211, R124. -/
  | oraZp (z : Byte)
  /-- `ORA z,X`, opcode 0x15, mode ZPX: R211, R125. -/
  | oraZpx (z : Byte)
  /-- `ORA addr`, opcode 0x0D, mode ABS: R211, R127. -/
  | oraAbs (addr : Word)
  /-- `ORA base,X`, opcode 0x1D, mode ABX: R211, R128. -/
  | oraAbx (base : Word)
  /-- `ORA base,Y`, opcode 0x19, mode ABY: R211, R129. -/
  | oraAby (base : Word)
  /-- `ORA (z,X)`, opcode 0x01, mode IZX: R211, R131. -/
  | oraIzx (z : Byte)
  /-- `ORA (z),Y`, opcode 0x11, mode IZY: R211, R132. -/
  | oraIzy (z : Byte)
  /-- `EOR #v`, opcode 0x49, mode IMM: R212, R123. -/
  | eorImm (v : Byte)
  /-- `EOR z`, opcode 0x45, mode ZP: R212, R124. -/
  | eorZp (z : Byte)
  /-- `EOR z,X`, opcode 0x55, mode ZPX: R212, R125. -/
  | eorZpx (z : Byte)
  /-- `EOR addr`, opcode 0x4D, mode ABS: R212, R127. -/
  | eorAbs (addr : Word)
  /-- `EOR base,X`, opcode 0x5D, mode ABX: R212, R128. -/
  | eorAbx (base : Word)
  /-- `EOR base,Y`, opcode 0x59, mode ABY: R212, R129. -/
  | eorAby (base : Word)
  /-- `EOR (z,X)`, opcode 0x41, mode IZX: R212, R131. -/
  | eorIzx (z : Byte)
  /-- `EOR (z),Y`, opcode 0x51, mode IZY: R212, R132. -/
  | eorIzy (z : Byte)
  /-- `BIT z`, opcode 0x24, mode ZP: R213, R124. -/
  | bitZp (z : Byte)
  /-- `BIT addr`, opcode 0x2C, mode ABS: R213, R127. -/
  | bitAbs (addr : Word)
  /-- `ASL A`, opcode 0x0A, mode ACC: R214, R122. -/
  | aslAcc
  /-- `ASL z`, opcode 0x06, mode ZP: R214, R124. -/
  | aslZp (z : Byte)
  /-- `ASL z,X`, opcode 0x16, mode ZPX: R214, R125. -/
  | aslZpx (z : Byte)
  /-- `ASL addr`, opcode 0x0E, mode ABS: R214, R127. -/
  | aslAbs (addr : Word)
  /-- `ASL base,X`, opcode 0x1E, mode ABX: R214, R128. -/
  | aslAbx (base : Word)
  /-- `LSR A`, opcode 0x4A, mode ACC: R215, R122. -/
  | lsrAcc
  /-- `LSR z`, opcode 0x46, mode ZP: R215, R124. -/
  | lsrZp (z : Byte)
  /-- `LSR z,X`, opcode 0x56, mode ZPX: R215, R125. -/
  | lsrZpx (z : Byte)
  /-- `LSR addr`, opcode 0x4E, mode ABS: R215, R127. -/
  | lsrAbs (addr : Word)
  /-- `LSR base,X`, opcode 0x5E, mode ABX: R215, R128. -/
  | lsrAbx (base : Word)
  /-- `ROL A`, opcode 0x2A, mode ACC: R216, R122. -/
  | rolAcc
  /-- `ROL z`, opcode 0x26, mode ZP: R216, R124. -/
  | rolZp (z : Byte)
  /-- `ROL z,X`, opcode 0x36, mode ZPX: R216, R125. -/
  | rolZpx (z : Byte)
  /-- `ROL addr`, opcode 0x2E, mode ABS: R216, R127. -/
  | rolAbs (addr : Word)
  /-- `ROL base,X`, opcode 0x3E, mode ABX: R216, R128. -/
  | rolAbx (base : Word)
  /-- `ROR A`, opcode 0x6A, mode ACC: R217, R122. -/
  | rorAcc
  /-- `ROR z`, opcode 0x66, mode ZP: R217, R124. -/
  | rorZp (z : Byte)
  /-- `ROR z,X`, opcode 0x76, mode ZPX: R217, R125. -/
  | rorZpx (z : Byte)
  /-- `ROR addr`, opcode 0x6E, mode ABS: R217, R127. -/
  | rorAbs (addr : Word)
  /-- `ROR base,X`, opcode 0x7E, mode ABX: R217, R128. -/
  | rorAbx (base : Word)
  /-- `JMP addr`, opcode 0x4C, mode ABS: R230, R127. -/
  | jmpAbs (addr : Word)
  /-- `JMP (ptr)`, opcode 0x6C, mode IND: R230, R130. -/
  | jmpInd (ptr : Word)
  /-- `JSR addr`, opcode 0x20, mode ABS: R231, R127. -/
  | jsr (addr : Word)
  /-- `RTS`, opcode 0x60, mode IMP: R232, R121. -/
  | rts
  /-- `BCC off`, opcode 0x90, mode REL: R234, R133. -/
  | bcc (off : Byte)
  /-- `BCS off`, opcode 0xB0, mode REL: R235, R133. -/
  | bcs (off : Byte)
  /-- `BEQ off`, opcode 0xF0, mode REL: R236, R133. -/
  | beq (off : Byte)
  /-- `BMI off`, opcode 0x30, mode REL: R237, R133. -/
  | bmi (off : Byte)
  /-- `BNE off`, opcode 0xD0, mode REL: R238, R133. -/
  | bne (off : Byte)
  /-- `BPL off`, opcode 0x10, mode REL: R239, R133. -/
  | bpl (off : Byte)
  /-- `BVC off`, opcode 0x50, mode REL: R240, R133. -/
  | bvc (off : Byte)
  /-- `BVS off`, opcode 0x70, mode REL: R241, R133. -/
  | bvs (off : Byte)
  /-- `BRK`, opcode 0x00, mode IMP: R250, R121. -/
  | brk
  /-- `RTI`, opcode 0x40, mode IMP: R252, R121. -/
  | rti
  /-- `NOP`, opcode 0xEA, mode IMP: R253, R121. -/
  | nop
  /-- `CLC`, opcode 0x18, mode IMP: R254, R121. -/
  | clc
  /-- `SEC`, opcode 0x38, mode IMP: R255, R121. -/
  | sec
  /-- `CLI`, opcode 0x58, mode IMP: R256, R121. -/
  | cli
  /-- `SEI`, opcode 0x78, mode IMP: R257, R121. -/
  | sei
  /-- `CLV`, opcode 0xB8, mode IMP: R258, R121. -/
  | clv
  /-- `CLD`, opcode 0xD8, mode IMP: R259, R121. -/
  | cld
  /-- `SED`, opcode 0xF8, mode IMP: R260, R121. -/
  | sed
  deriving DecidableEq, Repr

end Sys2Proof
end

