-- ==== Sys2Proof/Decode.lean ====
section
/-! DEFINITION. The decoder and the encoder (30_encoding R80 to R91): the opcode ROM as the 16 by 16 matrix of R86, the
decoding of a byte list by name of what is refused, the encoder, and the byte-order helpers both use. -/

namespace Sys2Proof

/-- `hi(w) = w[15:8]` (00_scope R7). -/
def hi (w : Word) : Byte := w.extractLsb' 8 8

/-- `lo(w) = w[7:0]` (00_scope R7). -/
def lo (w : Word) : Byte := w.extractLsb' 0 8

/-- `(h : l) = (h << 8) | l` (00_scope R7). -/
def mkWord (h l : Byte) : Word := h ++ l

/-- The thirteen addressing-mode codes (R82). -/
inductive Mode where
  | imp | acc | imm | zp | zpx | zpy | abs | abx | aby | ind | izx | izy | rel
  deriving DecidableEq, Repr

/-- The 56 mnemonics (R86, R87). -/
inductive Mnemonic where
  | LDA | LDX | LDY | STA | STX | STY | TAX | TAY | TXA | TYA | TSX | TXS | PHA | PHP | PLA | PLP
  | ADC | SBC | CMP | CPX | CPY | INC | INX | INY | DEC | DEX | DEY
  | AND | ORA | EOR | BIT | ASL | LSR | ROL | ROR
  | JMP | JSR | RTS | BCC | BCS | BEQ | BMI | BNE | BPL | BVC | BVS
  | BRK | RTI | NOP | CLC | SEC | CLI | SEI | CLV | CLD | SED
  deriving DecidableEq, Repr

/-- How many operand bytes follow the opcode in each mode (R81). -/
def Mode.operandWidth : Mode → Nat
  | .imp | .acc => 0
  | .imm | .zp | .zpx | .zpy | .izx | .izy | .rel => 1
  | .abs | .abx | .aby | .ind => 2

/-- The three formats of R81, with the instruction that the operand bytes complete. -/
inductive Format where
  /-- F1: the opcode alone. -/
  | f1 (i : Instr)
  /-- F2: one operand byte. -/
  | f2 (i : Byte → Instr)
  /-- F3: an operand word, low byte first. -/
  | f3 (i : Word → Instr)

/-- A populated slot of the opcode ROM (10_state R40). -/
structure RomEntry where
  mnemonic : Mnemonic
  mode : Mode
  format : Format

/-- The length in bytes of a slot's instruction: 1 + the operand width of its mode (R84). -/
def RomEntry.length (e : RomEntry) : Nat := 1 + e.mode.operandWidth

/-- A one-byte slot. -/
def one (m : Mnemonic) (a : Mode) (i : Instr) : Option RomEntry := some ⟨m, a, .f1 i⟩

/-- A two-byte slot. -/
def two (m : Mnemonic) (a : Mode) (i : Byte → Instr) : Option RomEntry := some ⟨m, a, .f2 i⟩

/-- A three-byte slot. -/
def three (m : Mnemonic) (a : Mode) (i : Word → Instr) : Option RomEntry := some ⟨m, a, .f3 i⟩

/-- Row 0 of the opcode matrix (R86). -/
def romRow0 : List (Option RomEntry) :=
  [one .BRK .imp .brk, two .ORA .izx .oraIzx, none, none,
   none, two .ORA .zp .oraZp, two .ASL .zp .aslZp, none,
   one .PHP .imp .php, two .ORA .imm .oraImm, one .ASL .acc .aslAcc, none,
   none, three .ORA .abs .oraAbs, three .ASL .abs .aslAbs, none]

/-- Row 1 of the opcode matrix (R86). -/
def romRow1 : List (Option RomEntry) :=
  [two .BPL .rel .bpl, two .ORA .izy .oraIzy, none, none,
   none, two .ORA .zpx .oraZpx, two .ASL .zpx .aslZpx, none,
   one .CLC .imp .clc, three .ORA .aby .oraAby, none, none,
   none, three .ORA .abx .oraAbx, three .ASL .abx .aslAbx, none]

/-- Row 2 of the opcode matrix (R86). -/
def romRow2 : List (Option RomEntry) :=
  [three .JSR .abs .jsr, two .AND .izx .andIzx, none, none,
   two .BIT .zp .bitZp, two .AND .zp .andZp, two .ROL .zp .rolZp, none,
   one .PLP .imp .plp, two .AND .imm .andImm, one .ROL .acc .rolAcc, none,
   three .BIT .abs .bitAbs, three .AND .abs .andAbs, three .ROL .abs .rolAbs, none]

/-- Row 3 of the opcode matrix (R86). -/
def romRow3 : List (Option RomEntry) :=
  [two .BMI .rel .bmi, two .AND .izy .andIzy, none, none,
   none, two .AND .zpx .andZpx, two .ROL .zpx .rolZpx, none,
   one .SEC .imp .sec, three .AND .aby .andAby, none, none,
   none, three .AND .abx .andAbx, three .ROL .abx .rolAbx, none]

/-- Row 4 of the opcode matrix (R86). -/
def romRow4 : List (Option RomEntry) :=
  [one .RTI .imp .rti, two .EOR .izx .eorIzx, none, none,
   none, two .EOR .zp .eorZp, two .LSR .zp .lsrZp, none,
   one .PHA .imp .pha, two .EOR .imm .eorImm, one .LSR .acc .lsrAcc, none,
   three .JMP .abs .jmpAbs, three .EOR .abs .eorAbs, three .LSR .abs .lsrAbs, none]

/-- Row 5 of the opcode matrix (R86). -/
def romRow5 : List (Option RomEntry) :=
  [two .BVC .rel .bvc, two .EOR .izy .eorIzy, none, none,
   none, two .EOR .zpx .eorZpx, two .LSR .zpx .lsrZpx, none,
   one .CLI .imp .cli, three .EOR .aby .eorAby, none, none,
   none, three .EOR .abx .eorAbx, three .LSR .abx .lsrAbx, none]

/-- Row 6 of the opcode matrix (R86). -/
def romRow6 : List (Option RomEntry) :=
  [one .RTS .imp .rts, two .ADC .izx .adcIzx, none, none,
   none, two .ADC .zp .adcZp, two .ROR .zp .rorZp, none,
   one .PLA .imp .pla, two .ADC .imm .adcImm, one .ROR .acc .rorAcc, none,
   three .JMP .ind .jmpInd, three .ADC .abs .adcAbs, three .ROR .abs .rorAbs, none]

/-- Row 7 of the opcode matrix (R86). -/
def romRow7 : List (Option RomEntry) :=
  [two .BVS .rel .bvs, two .ADC .izy .adcIzy, none, none,
   none, two .ADC .zpx .adcZpx, two .ROR .zpx .rorZpx, none,
   one .SEI .imp .sei, three .ADC .aby .adcAby, none, none,
   none, three .ADC .abx .adcAbx, three .ROR .abx .rorAbx, none]

/-- Row 8 of the opcode matrix (R86). -/
def romRow8 : List (Option RomEntry) :=
  [none, two .STA .izx .staIzx, none, none,
   two .STY .zp .styZp, two .STA .zp .staZp, two .STX .zp .stxZp, none,
   one .DEY .imp .dey, none, one .TXA .imp .txa, none,
   three .STY .abs .styAbs, three .STA .abs .staAbs, three .STX .abs .stxAbs, none]

/-- Row 9 of the opcode matrix (R86). -/
def romRow9 : List (Option RomEntry) :=
  [two .BCC .rel .bcc, two .STA .izy .staIzy, none, none,
   two .STY .zpx .styZpx, two .STA .zpx .staZpx, two .STX .zpy .stxZpy, none,
   one .TYA .imp .tya, three .STA .aby .staAby, one .TXS .imp .txs, none,
   none, three .STA .abx .staAbx, none, none]

/-- Row A of the opcode matrix (R86). -/
def romRowA : List (Option RomEntry) :=
  [two .LDY .imm .ldyImm, two .LDA .izx .ldaIzx, two .LDX .imm .ldxImm, none,
   two .LDY .zp .ldyZp, two .LDA .zp .ldaZp, two .LDX .zp .ldxZp, none,
   one .TAY .imp .tay, two .LDA .imm .ldaImm, one .TAX .imp .tax, none,
   three .LDY .abs .ldyAbs, three .LDA .abs .ldaAbs, three .LDX .abs .ldxAbs, none]

/-- Row B of the opcode matrix (R86). -/
def romRowB : List (Option RomEntry) :=
  [two .BCS .rel .bcs, two .LDA .izy .ldaIzy, none, none,
   two .LDY .zpx .ldyZpx, two .LDA .zpx .ldaZpx, two .LDX .zpy .ldxZpy, none,
   one .CLV .imp .clv, three .LDA .aby .ldaAby, one .TSX .imp .tsx, none,
   three .LDY .abx .ldyAbx, three .LDA .abx .ldaAbx, three .LDX .aby .ldxAby, none]

/-- Row C of the opcode matrix (R86). -/
def romRowC : List (Option RomEntry) :=
  [two .CPY .imm .cpyImm, two .CMP .izx .cmpIzx, none, none,
   two .CPY .zp .cpyZp, two .CMP .zp .cmpZp, two .DEC .zp .decZp, none,
   one .INY .imp .iny, two .CMP .imm .cmpImm, one .DEX .imp .dex, none,
   three .CPY .abs .cpyAbs, three .CMP .abs .cmpAbs, three .DEC .abs .decAbs, none]

/-- Row D of the opcode matrix (R86). -/
def romRowD : List (Option RomEntry) :=
  [two .BNE .rel .bne, two .CMP .izy .cmpIzy, none, none,
   none, two .CMP .zpx .cmpZpx, two .DEC .zpx .decZpx, none,
   one .CLD .imp .cld, three .CMP .aby .cmpAby, none, none,
   none, three .CMP .abx .cmpAbx, three .DEC .abx .decAbx, none]

/-- Row E of the opcode matrix (R86). -/
def romRowE : List (Option RomEntry) :=
  [two .CPX .imm .cpxImm, two .SBC .izx .sbcIzx, none, none,
   two .CPX .zp .cpxZp, two .SBC .zp .sbcZp, two .INC .zp .incZp, none,
   one .INX .imp .inx, two .SBC .imm .sbcImm, one .NOP .imp .nop, none,
   three .CPX .abs .cpxAbs, three .SBC .abs .sbcAbs, three .INC .abs .incAbs, none]

/-- Row F of the opcode matrix (R86). -/
def romRowF : List (Option RomEntry) :=
  [two .BEQ .rel .beq, two .SBC .izy .sbcIzy, none, none,
   none, two .SBC .zpx .sbcZpx, two .INC .zpx .incZpx, none,
   one .SED .imp .sed, three .SBC .aby .sbcAby, none, none,
   none, three .SBC .abx .sbcAbx, three .INC .abx .incAbx, none]

/-- The opcode matrix, row = high nibble, column = low nibble of byte 0 (R86). -/
def romRows : List (List (Option RomEntry)) :=
  [romRow0, romRow1, romRow2, romRow3] ++ [romRow4, romRow5, romRow6, romRow7] ++
  [romRow8, romRow9, romRowA, romRowB] ++ [romRowC, romRowD, romRowE, romRowF]

/-- `ROM[op]` (10_state R40, R86): the slot of an opcode byte, or none. -/
def rom (op : Byte) : Option RomEntry :=
  (romRows.getD (op.toNat / 16) []).getD (op.toNat % 16) none

/-- Why a byte list is not an instruction followed by a rest. -/
inductive DecodeError where
  /-- There is no byte 0. -/
  | empty
  /-- Byte 0 is one of the 105 values with no ROM entry (R88). -/
  | unimplemented (op : Byte)
  /-- The operand bytes that the mode of byte 0 asks for are not all there. -/
  | truncated (op : Byte)
  deriving DecidableEq, Repr

/-- A decoded instruction with the bytes after it, or the reason why there is none. -/
inductive Decoded where
  | ok (i : Instr) (rest : List Byte)
  | error (e : DecodeError)
  deriving DecidableEq, Repr

/-- Takes the operand bytes that a slot's format asks for (R81: the low operand byte comes first). -/
def decodeOperands (op : Byte) (f : Format) (rest : List Byte) : Decoded :=
  match f, rest with
  | .f1 i, rest => .ok i rest
  | .f2 i, b :: rest => .ok (i b) rest
  | .f3 i, l :: h :: rest => .ok (i (mkWord h l)) rest
  | .f2 _, [] => .error (.truncated op)
  | .f3 _, [] => .error (.truncated op)
  | .f3 _, [_] => .error (.truncated op)

/-- The decoder (R80, R84): the slot of byte 0 alone decides the instruction and how many operand bytes it takes. -/
def decode : List Byte → Decoded
  | [] => .error .empty
  | op :: rest =>
    match rom op with
    | none => .error (.unimplemented op)
    | some e => decodeOperands op e.format rest

/-- The instruction of a decoding, if there is one. -/
def Decoded.toInstr : Decoded → Option Instr
  | .ok i _ => some i
  | .error _ => none

/-- The three bytes of a number whose bits count up from the first byte's least significant bit. -/
def bytesOfNat (n : Nat) : List Byte :=
  [BitVec.ofNat 8 n, BitVec.ofNat 8 (n / 256), BitVec.ofNat 8 (n / 65536)]

/-- The bytes of an instruction of `nbits` bits whose bits are `w`, as they lie in memory from its first byte up; every bit
above `nbits` is 0, up to the longest instruction (three bytes). -/
def tableBytes (nbits w : Nat) : List Byte := bytesOfNat (w % 2 ^ nbits)

/-- The instruction the decoder reads from an instruction word numbered as spec/opcode_table.json numbers it. -/
def decodeTableWord (nbits w : Nat) : Option Instr := (decode (tableBytes nbits w)).toInstr

/-- The bytes of an instruction (R80, R81, R86): the opcode, then the operand byte, or the operand word low byte first. -/
def encode : Instr → List Byte
  | .ldaImm v => [0xA9, v]
  | .ldaZp z => [0xA5, z]
  | .ldaZpx z => [0xB5, z]
  | .ldaAbs addr => [0xAD, lo addr, hi addr]
  | .ldaAbx base => [0xBD, lo base, hi base]
  | .ldaAby base => [0xB9, lo base, hi base]
  | .ldaIzx z => [0xA1, z]
  | .ldaIzy z => [0xB1, z]
  | .ldxImm v => [0xA2, v]
  | .ldxZp z => [0xA6, z]
  | .ldxZpy z => [0xB6, z]
  | .ldxAbs addr => [0xAE, lo addr, hi addr]
  | .ldxAby base => [0xBE, lo base, hi base]
  | .ldyImm v => [0xA0, v]
  | .ldyZp z => [0xA4, z]
  | .ldyZpx z => [0xB4, z]
  | .ldyAbs addr => [0xAC, lo addr, hi addr]
  | .ldyAbx base => [0xBC, lo base, hi base]
  | .staZp z => [0x85, z]
  | .staZpx z => [0x95, z]
  | .staAbs addr => [0x8D, lo addr, hi addr]
  | .staAbx base => [0x9D, lo base, hi base]
  | .staAby base => [0x99, lo base, hi base]
  | .staIzx z => [0x81, z]
  | .staIzy z => [0x91, z]
  | .stxZp z => [0x86, z]
  | .stxZpy z => [0x96, z]
  | .stxAbs addr => [0x8E, lo addr, hi addr]
  | .styZp z => [0x84, z]
  | .styZpx z => [0x94, z]
  | .styAbs addr => [0x8C, lo addr, hi addr]
  | .tax => [0xAA]
  | .tay => [0xA8]
  | .txa => [0x8A]
  | .tya => [0x98]
  | .tsx => [0xBA]
  | .txs => [0x9A]
  | .pha => [0x48]
  | .php => [0x08]
  | .pla => [0x68]
  | .plp => [0x28]
  | .adcImm v => [0x69, v]
  | .adcZp z => [0x65, z]
  | .adcZpx z => [0x75, z]
  | .adcAbs addr => [0x6D, lo addr, hi addr]
  | .adcAbx base => [0x7D, lo base, hi base]
  | .adcAby base => [0x79, lo base, hi base]
  | .adcIzx z => [0x61, z]
  | .adcIzy z => [0x71, z]
  | .sbcImm v => [0xE9, v]
  | .sbcZp z => [0xE5, z]
  | .sbcZpx z => [0xF5, z]
  | .sbcAbs addr => [0xED, lo addr, hi addr]
  | .sbcAbx base => [0xFD, lo base, hi base]
  | .sbcAby base => [0xF9, lo base, hi base]
  | .sbcIzx z => [0xE1, z]
  | .sbcIzy z => [0xF1, z]
  | .cmpImm v => [0xC9, v]
  | .cmpZp z => [0xC5, z]
  | .cmpZpx z => [0xD5, z]
  | .cmpAbs addr => [0xCD, lo addr, hi addr]
  | .cmpAbx base => [0xDD, lo base, hi base]
  | .cmpAby base => [0xD9, lo base, hi base]
  | .cmpIzx z => [0xC1, z]
  | .cmpIzy z => [0xD1, z]
  | .cpxImm v => [0xE0, v]
  | .cpxZp z => [0xE4, z]
  | .cpxAbs addr => [0xEC, lo addr, hi addr]
  | .cpyImm v => [0xC0, v]
  | .cpyZp z => [0xC4, z]
  | .cpyAbs addr => [0xCC, lo addr, hi addr]
  | .incZp z => [0xE6, z]
  | .incZpx z => [0xF6, z]
  | .incAbs addr => [0xEE, lo addr, hi addr]
  | .incAbx base => [0xFE, lo base, hi base]
  | .inx => [0xE8]
  | .iny => [0xC8]
  | .decZp z => [0xC6, z]
  | .decZpx z => [0xD6, z]
  | .decAbs addr => [0xCE, lo addr, hi addr]
  | .decAbx base => [0xDE, lo base, hi base]
  | .dex => [0xCA]
  | .dey => [0x88]
  | .andImm v => [0x29, v]
  | .andZp z => [0x25, z]
  | .andZpx z => [0x35, z]
  | .andAbs addr => [0x2D, lo addr, hi addr]
  | .andAbx base => [0x3D, lo base, hi base]
  | .andAby base => [0x39, lo base, hi base]
  | .andIzx z => [0x21, z]
  | .andIzy z => [0x31, z]
  | .oraImm v => [0x09, v]
  | .oraZp z => [0x05, z]
  | .oraZpx z => [0x15, z]
  | .oraAbs addr => [0x0D, lo addr, hi addr]
  | .oraAbx base => [0x1D, lo base, hi base]
  | .oraAby base => [0x19, lo base, hi base]
  | .oraIzx z => [0x01, z]
  | .oraIzy z => [0x11, z]
  | .eorImm v => [0x49, v]
  | .eorZp z => [0x45, z]
  | .eorZpx z => [0x55, z]
  | .eorAbs addr => [0x4D, lo addr, hi addr]
  | .eorAbx base => [0x5D, lo base, hi base]
  | .eorAby base => [0x59, lo base, hi base]
  | .eorIzx z => [0x41, z]
  | .eorIzy z => [0x51, z]
  | .bitZp z => [0x24, z]
  | .bitAbs addr => [0x2C, lo addr, hi addr]
  | .aslAcc => [0x0A]
  | .aslZp z => [0x06, z]
  | .aslZpx z => [0x16, z]
  | .aslAbs addr => [0x0E, lo addr, hi addr]
  | .aslAbx base => [0x1E, lo base, hi base]
  | .lsrAcc => [0x4A]
  | .lsrZp z => [0x46, z]
  | .lsrZpx z => [0x56, z]
  | .lsrAbs addr => [0x4E, lo addr, hi addr]
  | .lsrAbx base => [0x5E, lo base, hi base]
  | .rolAcc => [0x2A]
  | .rolZp z => [0x26, z]
  | .rolZpx z => [0x36, z]
  | .rolAbs addr => [0x2E, lo addr, hi addr]
  | .rolAbx base => [0x3E, lo base, hi base]
  | .rorAcc => [0x6A]
  | .rorZp z => [0x66, z]
  | .rorZpx z => [0x76, z]
  | .rorAbs addr => [0x6E, lo addr, hi addr]
  | .rorAbx base => [0x7E, lo base, hi base]
  | .jmpAbs addr => [0x4C, lo addr, hi addr]
  | .jmpInd ptr => [0x6C, lo ptr, hi ptr]
  | .jsr addr => [0x20, lo addr, hi addr]
  | .rts => [0x60]
  | .bcc off => [0x90, off]
  | .bcs off => [0xB0, off]
  | .beq off => [0xF0, off]
  | .bmi off => [0x30, off]
  | .bne off => [0xD0, off]
  | .bpl off => [0x10, off]
  | .bvc off => [0x50, off]
  | .bvs off => [0x70, off]
  | .brk => [0x00]
  | .rti => [0x40]
  | .nop => [0xEA]
  | .clc => [0x18]
  | .sec => [0x38]
  | .cli => [0x58]
  | .sei => [0x78]
  | .clv => [0xB8]
  | .cld => [0xD8]
  | .sed => [0xF8]

end Sys2Proof
end

