-- ==== Sys2Proof/Machine/Flags.lean ====
section
/-! DEFINITION. The status byte and the flag-computation logic (10_state R28, 42_flags R140 to R150): pure functions of the
status byte and of operands. -/

namespace Sys2Proof.Machine

/-- The flags of `P` by name (00_scope R8, R28). -/
inductive Flag where
  | C | Z | I | D | B | U | V | N
  deriving DecidableEq, Repr

/-- The bit of `P` that holds the flag, low to high (R28). -/
def Flag.bit : Flag → Nat
  | .C => 0 | .Z => 1 | .I => 2 | .D => 3 | .B => 4 | .U => 5 | .V => 6 | .N => 7

/-- The flag's mask, `FLAG_C` to `FLAG_N` (R8). -/
def Flag.mask : Flag → Byte
  | .C => 0x01 | .Z => 0x02 | .I => 0x04 | .D => 0x08 | .B => 0x10 | .U => 0x20 | .V => 0x40 | .N => 0x80

/-- Reads one flag of a status byte. -/
def getFlag (p : Byte) (f : Flag) : Bool := p.getLsbD f.bit

/-- Writes one flag of a status byte and leaves the other seven bits as they were (R28). -/
def setFlag (p : Byte) (f : Flag) (b : Bool) : Byte :=
  if b then p ||| f.mask else p &&& ~~~f.mask

/-- `setZero(v)` (R141): `P.Z <- (v == 0)`. -/
def setZero (p v : Byte) : Byte := setFlag p .Z (v == 0)

/-- `setNegative(v)` (R145): `P.N <- v[7]`. -/
def setNegative (p v : Byte) : Byte := setFlag p .N (v.getLsbD 7)

/-- `SetZN(v)` (R142). -/
def setZN (p v : Byte) : Byte := setNegative (setZero p v) v

/-- `setCarryOnAddition(sum)` (R143): `P.C <- sum[8]`. -/
def setCarryOnAddition (p : Byte) (sum : Word) : Byte := setFlag p .C (sum.getLsbD 8)

/-- `setOverflowOnAddition(a, b, result)` (R144), on the operands widened to 16 bits. -/
def setOverflowOnAddition (p : Byte) (a b : Byte) (result : Word) : Byte :=
  setFlag p .V (((~~~(a.setWidth 16 ^^^ b.setWidth 16) &&& (a.setWidth 16 ^^^ result)) &&& 0x80) != 0)

/-- A Boolean used as a number (R8). -/
def bitWord (c : Bool) : Word := if c then 1 else 0

/-- The sum of two bytes and a carry, held in 16 bits (R143, R146). -/
def sum16 (a b : Byte) (c : Bool) : Word := a.setWidth 16 + b.setWidth 16 + bitWord c

/-- The byte `Add8(a, b, c)` returns (R146). -/
def add8Result (a b : Byte) (c : Bool) : Byte := (sum16 a b c).setWidth 8

/-- The status byte `Add8(a, b, c)` leaves (R146). -/
def add8Flags (p a b : Byte) (c : Bool) : Byte :=
  setZN (setOverflowOnAddition (setCarryOnAddition p (sum16 a b c)) a b (sum16 a b c)) (add8Result a b c)

/-- The status byte `Compare(r, m)` leaves (R149). -/
def compareFlags (p r m : Byte) : Byte :=
  setZN (setFlag p .C (m.ule r)) (r - m)

/-- A shift or rotate of a byte with carry in: the result and the carry out (R150). -/
structure Shifted where
  result : Byte
  carry : Bool
  deriving DecidableEq, Repr

/-- `ASL(v)` (R150). -/
def asl (v : Byte) : Shifted := { result := v <<< 1, carry := v.getLsbD 7 }

/-- `LSR(v)` (R150). -/
def lsr (v : Byte) : Shifted := { result := v >>> 1, carry := v.getLsbD 0 }

/-- `ROL(v)` (R150) with carry in `c`. -/
def rol (v : Byte) (c : Bool) : Shifted :=
  { result := (v <<< 1) ||| (if c then 0x01 else 0x00), carry := v.getLsbD 7 }

/-- `ROR(v)` (R150) with carry in `c`. -/
def ror (v : Byte) (c : Bool) : Shifted :=
  { result := (v >>> 1) ||| (if c then 0x80 else 0x00), carry := v.getLsbD 0 }

/-- The status byte a shift or rotate leaves (R150): the carry out, then Z and N of the result. -/
def shiftFlags (p : Byte) (r : Shifted) : Byte := setZN (setFlag p .C r.carry) r.result

/-- The byte PHP and BRK push: B and U set (44_transfer_stack R181, 48_system R250). -/
def pushedByProgram (p : Byte) : Byte := p ||| 0x30

/-- The byte IRQ and NMI entry push: B clear, U set (60_exceptions R280). -/
def pushedByInterrupt (p : Byte) : Byte := (p &&& 0xEF) ||| 0x20

/-- What a byte written whole into `P` becomes: B is 0 and U is 1 in the register (R34, R35, R185). -/
def loadedStatus (v : Byte) : Byte := (v &&& 0xCF) ||| 0x20

end Sys2Proof.Machine
end

