-- ==== Sys2Proof/Config.lean ====
section
/-! DEFINITION. What the host or an implementation fixes (00_scope R5) and the values the spec leaves open. The ROM is in
Decode.lean and the cycle tables are in Machine/Cycles.lean; M0 is a memory given to `hostReset`. -/

namespace Sys2Proof

/-- The parameters of `reset()` that the spec leaves open (00_scope R5, 10_state R44, D7, D8). -/
structure ResetParams where
  a : Byte
  x : Byte
  y : Byte
  irq : Bool
  nmi : Bool
  deriving DecidableEq, Repr

/-- DESIGN CHOICE (log entries 1 and 3), unsafe: the values State.reset takes for the open parameters: A, X, Y zero, and the
two latches at the false the spec recommends (R44). -/
def ResetParams.default : ResetParams :=
  { a := 0, x := 0, y := 0, irq := false, nmi := false }

/-- The address of a word in memory that holds a vector (20_memory R64): NMI. -/
def nmiVector : Word := 0xFFFA

/-- The RESET vector's address (R64). -/
def resetVector : Word := 0xFFFC

/-- The vector IRQ and BRK share (R64). -/
def irqVector : Word := 0xFFFE

/-- Free value, safe (log entry 10): how many of the (at most two) bytes after the opcode the filling of the Decode Trace
record reads through the memory port is not in the source (40_engine R102, 60_exceptions R300). -/
opaque Config.traceReadCount : Byte → Nat

/-- Free value, safe (log entry 10): the raw operand bytes, mnemonic and operand text of the record of an opcode with no ROM
entry are left open (60_exceptions R300, D25); they may depend on the address, the opcode, the two bytes after it and the
register snapshot. -/
opaque Config.unimplementedRecord : Word → Byte → Byte → Byte → Text → Text × Text × Text

end Sys2Proof
end

