-- ==== Sys2Proof/Machine/State.lean ====
section
/-! DEFINITION. The state of CORE (10_state R20 to R45), the memory behind its port (20_memory R50), the outputs of a step
(00_scope R6), the reasons a step can stop, and the state right after `reset()`. -/

namespace Sys2Proof.Machine

/-- The host's memory behind the port (R50), plain storage (log entry 9): the bytes that are not what an unlisted address reads as, addresses strictly
rising (Ops.lean: `Memory.wf`). -/
abbrev Memory := List Host.Cell

/-- DESIGN CHOICE (log entry 2), unsafe: what an address nothing is listed for reads as: the reference implementation's fill
(70_reset_and_hazards R312), one admissible M0. -/
def unlistedByte : Byte := 0xFF

/-- One access through the memory port (R9, R50): a byte read, or a byte written. -/
inductive Access where
  | read (a : Word)
  | write (a : Word) (v : Byte)
  deriving DecidableEq, Repr

/-- What a behaviour returns (40_engine R112). -/
structure Status where
  pageCrossed : Bool
  branchTaken : Bool
  deriving DecidableEq, Repr

/-- The outcome half of a step's output (R107). -/
inductive StepOutcome where
  | success
  | unimplementedOpcode (op : Byte)
  | breakExecuted (op : Byte)
  deriving DecidableEq, Repr

/-- The Decode Trace record (10_state R41, 60_exceptions R300). -/
structure TraceRecord where
  address : Word
  opcode : Byte
  rawBytes : Text
  mnemonic : Text
  operandText : Text
  snapshot : Text
  deriving DecidableEq, Repr

/-- The whole state of CORE (R20), with the memory it reaches and the outputs of its last step. -/
structure State where
  /-- `A`, the accumulator (R21). -/
  a : Byte
  /-- `X` (R22). -/
  x : Byte
  /-- `Y` (R23). -/
  y : Byte
  /-- `SP`, the low byte of the next free stack slot's address (R24). -/
  sp : Byte
  /-- `P`, the status register (R28): C, Z, I, D, B, U, V, N from bit 0. -/
  p : Byte
  /-- `PC` (R26). -/
  pc : Word
  /-- The `IRQ` request latch (R38). -/
  irq : Bool
  /-- The `NMI` request latch (R38). -/
  nmi : Bool
  /-- The `RESET` request latch (R38). -/
  resetLine : Bool
  /-- `BRK_STRICT` (R39). -/
  brkStrict : Bool
  /-- `TRACE` (R39). -/
  trace : Bool
  /-- `DECIMAL_ENABLED` (R39). -/
  decimalEnabled : Bool
  /-- The Decode Trace record, while `TRACE` is true (R20, R41). -/
  record : Option TraceRecord
  /-- The memory behind the port (R43, R50). -/
  mem : Memory
  /-- The model's own (log entry 7): what passed through the memory port in the last step, in order (R62). -/
  accesses : List Access
  /-- The model's own (log entry 7): what the last behaviour returned (R112). -/
  status : Status
  /-- The cycles the last step consumed (R106, R107): an output, log entry 7. -/
  cycles : Nat
  /-- The outcome of the last step (R107): an output, log entry 7. -/
  outcome : StepOutcome
  deriving DecidableEq, Repr

/-- Why the machine stops. -/
inductive Fault where
  /-- UnimplementedOpcode (60_exceptions R270): raised by `step` when the byte fetched has no ROM entry; it carries the byte
  and the state the failed step left (40_engine R103, R111), from which the host may step again. DESIGN CHOICE (log
  entry 4), safe: a silicon 6502 would execute the byte (93 S9). -/
  | unimplementedOpcode (op : Byte) (left : State)
  deriving DecidableEq, Repr

/-- Why the model gives a step no next state. -/
inductive Refusal where
  /-- An instruction not modelled yet, by its mnemonic: raised by `exec`'s arms only. Safe. -/
  | notModelled (mnemonic : String)
  /-- ADC or SBC with `P.D` = 1 and `DECIMAL_ENABLED` (45_arithmetic R191: a model refuses such a step): raised by the
  meanings of ADC and SBC. Safe (log entry 6): no result is invented. -/
  | decimalArithmetic
  deriving DecidableEq, Repr

/-- The three outcomes of a step or a behaviour of CORE. -/
abbrev Result := Host.Outcome State Fault Refusal

/-- The machine right after `reset()` (10_state R44, 70_reset_and_hazards R310), with the open parameters at
`ResetParams.default` and M0 all 0xFF (log entries 1, 2, 3): P = 0x24, SP = 0xFD, PC the word at the RESET vector, the RESET
latch false, the configuration inputs at their initial values (R314). Its port record is the vector read (R313, log entry 8). -/
def State.reset : State :=
  { a := 0, x := 0, y := 0, sp := 0xFD, p := 0x24, pc := 0xFFFF
    irq := false, nmi := false, resetLine := false
    brkStrict := false, trace := false, decimalEnabled := true, record := none
    mem := []
    accesses := [.read 0xFFFC, .read 0xFFFD]
    status := { pageCrossed := false, branchTaken := false }
    cycles := 0, outcome := .success }

end Sys2Proof.Machine
end

