-- ==== Sys2Proof/Machine/Ops.lean ====
section
/-! DEFINITION. The named operations over memory and registers: the memory behind the port (20_memory R50 to R62), the port
itself, the stack (R57 to R59), entering an interrupt (60_exceptions R280) and returning from one (48_system R252). -/

namespace Sys2Proof.Machine

/-! The memory behind the port -/

/-- `fetch(a)` (R50): the byte last written to the address, or what an unlisted address reads as. -/
def Memory.read (m : Memory) (a : Word) : Byte :=
  match m with
  | [] => unlistedByte
  | c :: m => if c.1 = a.toNat then c.2 else Memory.read m a

/-- The memory without an entry for the address. -/
def Memory.erase (m : Memory) (k : Nat) : Memory :=
  match m with
  | [] => []
  | c :: m => if c.1 = k then Memory.erase m k else c :: Memory.erase m k

/-- Puts an entry before the first entry of a higher address. -/
def Memory.insert (m : Memory) (k : Nat) (v : Byte) : Memory :=
  match m with
  | [] => [(k, v)]
  | c :: m => if k < c.1 then (k, v) :: c :: m else c :: Memory.insert m k v

/-- The memory after a byte is written, in its canonical form. -/
def Memory.write (m : Memory) (a : Word) (v : Byte) : Memory :=
  if v = unlistedByte then m.erase a.toNat else (m.erase a.toNat).insert a.toNat v

/-- `store(a, v)` (R50): the previous byte of the address and the memory after. -/
def Memory.store (m : Memory) (a : Word) (v : Byte) : Byte × Memory := (m.read a, m.write a v)

/-- Every address is at least `n`, below 65536 and below the next one, and no entry is what an unlisted address reads as. -/
def Memory.wfFrom (n : Nat) (m : Memory) : Bool :=
  match m with
  | [] => true
  | c :: m => decide (n ≤ c.1) && decide (c.1 < 65536) && (c.2 != unlistedByte) && Memory.wfFrom (c.1 + 1) m

/-- The canonical form of a memory. -/
def Memory.wf (m : Memory) : Bool := Memory.wfFrom 0 m

/-! Register updates -/

/-- `A <- v`. -/
def State.setA (s : State) (v : Byte) : State := { s with a := v }

/-- `X <- v`. -/
def State.setX (s : State) (v : Byte) : State := { s with x := v }

/-- `Y <- v`. -/
def State.setY (s : State) (v : Byte) : State := { s with y := v }

/-- `SP <- v`. -/
def State.setSp (s : State) (v : Byte) : State := { s with sp := v }

/-- `P <- v`, for a byte that already has the register's hard-wired bits. -/
def State.setP (s : State) (v : Byte) : State := { s with p := v }

/-- `PC <- v` (00_scope R10). -/
def State.setPc (s : State) (v : Word) : State := { s with pc := v }

/-- Records an access through the memory port (R62). -/
def State.log (s : State) (e : Access) : State := { s with accesses := s.accesses ++ [e] }

/-- Replaces the memory behind the port. -/
def State.setMem (s : State) (m : Memory) : State := { s with mem := m }

/-- What a behaviour returns to the engine (40_engine R112). -/
def State.setStatus (s : State) (st : Status) : State := { s with status := st }

/-- Reads a flag of `P`. -/
def State.flag (s : State) (f : Flag) : Bool := getFlag s.p f

/-- `P.f <- b`. -/
def State.setFlagTo (s : State) (f : Flag) (b : Bool) : State := s.setP (setFlag s.p f b)

/-- `SetZN(v)` on `P` (R142). -/
def State.setZN (s : State) (v : Byte) : State := s.setP (Machine.setZN s.p v)

/-- The end of a behaviour (R112): it returns whether its resolver reported a page crossing; no branch was taken. -/
def finish (crossed : Bool) (s : State) : Result :=
  .next (s.setStatus { pageCrossed := crossed, branchTaken := false })

/-! The memory port -/

/-- `MemRead(a, 1)` (00_scope R9): the byte and the state after the access. -/
def memRead (a : Word) (s : State) : Byte × State := (s.mem.read a, s.log (.read a))

/-- `MemWrite(a, 1, v)` (R9): the byte that `store` returns is discarded (R52). -/
def memWrite (a : Word) (v : Byte) (s : State) : State :=
  (s.log (.write a v)).setMem (s.mem.store a v).2

/-- `MemRead16(a)` (R55): low byte first, the second address wrapping modulo 65536. -/
def memRead16 (a : Word) (s : State) : Word × State :=
  let l := memRead a s
  let h := memRead (a + 1) l.2
  (mkWord h.1 l.1, h.2)

/-- A byte's address in page zero (R56, R64). -/
def zeroPage (z : Byte) : Word := mkWord 0x00 z

/-- `MemRead16ZP(z)` (R56): both bytes from page zero. -/
def memRead16Zp (z : Byte) (s : State) : Word × State :=
  let l := memRead (zeroPage z) s
  let h := memRead (zeroPage (z + 1)) l.2
  (mkWord h.1 l.1, h.2)

/-! The stack -/

/-- `0x0100 | SP` (R57). -/
def stackSlot (sp : Byte) : Word := mkWord 0x01 sp

/-- `Push(v)` (R57): writes, then decrements `SP` modulo 256. -/
def push (v : Byte) (s : State) : State := (memWrite (stackSlot s.sp) v s).setSp (s.sp - 1)

/-- `Pull()` (R58): increments `SP` modulo 256, then reads. -/
def pull (s : State) : Byte × State := memRead (stackSlot (s.sp + 1)) (s.setSp (s.sp + 1))

/-- `Push16(w)` (R59): high byte, then low byte. -/
def push16 (w : Word) (s : State) : State := push (lo w) (push (hi w) s)

/-- `Pull16()` (R59): low byte, then high byte. -/
def pull16 (s : State) : Word × State :=
  let l := pull s
  let h := pull l.2
  (mkWord h.1 l.1, h.2)

/-! Interrupt entry and return -/

/-- `PC <- MemRead16(vector)` (60_exceptions R280, R283). -/
def loadVector (vector : Word) (s : State) : State :=
  let w := memRead16 vector s
  w.2.setPc w.1

/-- The one entry sequence of IRQ, NMI (R280) and BRK (48_system R250, R286), which differ in the word and the status byte
they push and in the vector: push the word, push the status byte, `P.I <- 1`, load `PC` from the vector. -/
def enterInterrupt (returnTo : Word) (status : Byte) (vector : Word) (s : State) : State :=
  loadVector vector ((push status (push16 returnTo s)).setFlagTo .I true)

/-- `InterruptSequence(vector)` (R280): the entry of IRQ and NMI. -/
def interruptSequence (vector : Word) (s : State) : State :=
  enterInterrupt s.pc (pushedByInterrupt s.p) vector s

/-- The return of RTI (R252, R288): pulls `P` (B cleared, U set), then `PC`. -/
def returnFromInterrupt (s : State) : State :=
  let v := pull s
  let w := pull16 (v.2.setP (loadedStatus v.1))
  w.2.setPc w.1

/-- The return of RTS (47_control R232): pulls a word and continues one past it. -/
def returnFromSubroutine (s : State) : State :=
  let w := pull16 s
  w.2.setPc (w.1 + 1)

end Sys2Proof.Machine
end

