-- ==== Sys2Proof/Machine/Operands.lean ====
section
/-! DEFINITION. The addressing-mode decoder (41_addressing R120 to R135). A resolver starts with `PC` at the first operand
byte and is given the operand bytes as the instruction carries them; it records their reads, advances `PC` past them and
returns the effective address and whether a page was crossed. IMP and ACC have no resolver to call (R121, R122). DEDUCED
(log entry 13): the bytes the decoder read are the bytes a read at `PC` would give, nothing being written in between. -/

namespace Sys2Proof.Machine

/-- `SamePage(a, b)` (R134): the high bytes are equal. -/
def samePage (a b : Word) : Bool := ((a ^^^ b) >>> 8) == 0

/-- What a resolver returns (R120): the effective address, whether a page was crossed, and the state after it. -/
structure Resolved where
  ea : Word
  crossed : Bool
  state : State
  deriving DecidableEq, Repr

/-- `PC <- (PC + 1) & 0xFFFF` (10_state R26, R27). -/
def advance (s : State) : State := s.setPc (s.pc + 1)

/-- The read of one operand byte at `PC`, and `PC`'s advance past it. -/
def fetchOperand (s : State) : State := advance (s.log (.read s.pc))

/-- `AddrIMM` (R123): the address of the operand byte; the resolver itself reads nothing. -/
def addrImm (s : State) : Resolved := { ea := s.pc, crossed := false, state := advance s }

/-- `AddrZP` (R124). -/
def addrZp (z : Byte) (s : State) : Resolved :=
  { ea := zeroPage z, crossed := false, state := fetchOperand s }

/-- `AddrZPX` (R125): the sum wraps within page zero. -/
def addrZpx (z : Byte) (s : State) : Resolved :=
  { ea := zeroPage (z + s.x), crossed := false, state := fetchOperand s }

/-- `AddrZPY` (R126). -/
def addrZpy (z : Byte) (s : State) : Resolved :=
  { ea := zeroPage (z + s.y), crossed := false, state := fetchOperand s }

/-- `AddrABS` (R127). -/
def addrAbs (addr : Word) (s : State) : Resolved :=
  { ea := addr, crossed := false, state := fetchOperand (fetchOperand s) }

/-- An unsigned index added to a 16-bit base, modulo 65536, with the page check against the unindexed base (R128, R135). -/
def indexed (base : Word) (index : Byte) (s : State) : Resolved :=
  { ea := base + index.setWidth 16
    crossed := !samePage base (base + index.setWidth 16)
    state := s }

/-- `AddrABX` (R128). -/
def addrAbx (base : Word) (s : State) : Resolved := indexed base s.x (addrAbs base s).state

/-- `AddrABY` (R129). -/
def addrAby (base : Word) (s : State) : Resolved := indexed base s.y (addrAbs base s).state

/-- The address of the high pointer byte of JMP indirect (R130): in the same page as the low one. -/
def samePageNext (ptr : Word) : Word := mkWord (hi ptr) (lo ptr + 1)

/-- `AddrIND` (R130): the word at the pointer, its high byte read from the pointer's page. -/
def addrInd (ptr : Word) (s : State) : Resolved :=
  let l := memRead ptr (addrAbs ptr s).state
  let h := memRead (samePageNext ptr) l.2
  { ea := mkWord h.1 l.1, crossed := false, state := h.2 }

/-- `AddrIZX` (R131): the pointer's address wraps within page zero. -/
def addrIzx (z : Byte) (s : State) : Resolved :=
  let w := memRead16Zp (z + s.x) (fetchOperand s)
  { ea := w.1, crossed := false, state := w.2 }

/-- `AddrIZY` (R132): `Y` is added to the word at the page-zero pointer. -/
def addrIzy (z : Byte) (s : State) : Resolved :=
  let w := memRead16Zp z (fetchOperand s)
  indexed w.1 s.y w.2

/-- `AddrREL` (R133): a signed offset from the address of the next instruction. -/
def addrRel (off : Byte) (s : State) : Resolved :=
  let next := (fetchOperand s).pc
  { ea := next + off.signExtend 16
    crossed := !samePage next (next + off.signExtend 16)
    state := fetchOperand s }

/-- The operand of a read instruction (40_engine R113): the byte `M`, whether a page was crossed, and the state after the
reads. -/
structure Operand where
  value : Byte
  crossed : Bool
  state : State
  deriving DecidableEq, Repr

/-- `M <- MemRead(ea, 1)` after a resolver (R113). -/
def readAt (r : Resolved) : Operand :=
  let m := memRead r.ea r.state
  { value := m.1, crossed := r.crossed, state := m.2 }

/-- The immediate operand (R113, R123): the operand byte inside the instruction, read at its address. -/
def operandImm (v : Byte) (s : State) : Operand :=
  { value := v, crossed := (addrImm s).crossed, state := (addrImm s).state.log (.read (addrImm s).ea) }

/-- The operand in mode ZP (R113, R124). -/
def operandZp (z : Byte) (s : State) : Operand := readAt (addrZp z s)
/-- The operand in mode ZPX (R113, R125). -/
def operandZpx (z : Byte) (s : State) : Operand := readAt (addrZpx z s)
/-- The operand in mode ZPY (R113, R126). -/
def operandZpy (z : Byte) (s : State) : Operand := readAt (addrZpy z s)
/-- The operand in mode ABS (R113, R127). -/
def operandAbs (addr : Word) (s : State) : Operand := readAt (addrAbs addr s)
/-- The operand in mode ABX (R113, R128). -/
def operandAbx (base : Word) (s : State) : Operand := readAt (addrAbx base s)
/-- The operand in mode ABY (R113, R129). -/
def operandAby (base : Word) (s : State) : Operand := readAt (addrAby base s)
/-- The operand in mode IZX (R113, R131). -/
def operandIzx (z : Byte) (s : State) : Operand := readAt (addrIzx z s)
/-- The operand in mode IZY (R113, R132). -/
def operandIzy (z : Byte) (s : State) : Operand := readAt (addrIzy z s)

/-- A write instruction's access (R113): one write of the register at `ea`, no read of it. -/
def storeTo (r : Resolved) (v : Byte) : Result := finish r.crossed (memWrite r.ea v r.state)

/-- A byte computed by a read-modify-write instruction from the byte read, and what it does to the status byte. -/
structure Modified where
  result : Byte
  p : Byte
  deriving DecidableEq, Repr

/-- A read-modify-write instruction (R113): one read, one write of the result, then its flags; `f` sees the byte read and `P`
as it was before. -/
def readModifyWrite (f : Byte → Byte → Modified) (r : Resolved) : Result :=
  let m := readAt r
  let n := f m.value m.state.p
  finish r.crossed ((memWrite r.ea n.result m.state).setP n.p)

end Sys2Proof.Machine
end

