-- ==== Sys2Proof/Machine/Arithmetic.lean ====
section
/-! DEFINITION. Arithmetic, compares, increments and decrements (45_arithmetic R190 to R201). -/

namespace Sys2Proof.Machine

/-- `A <- Add8(A, b, P.C)` (42_flags R146), refused in decimal mode (R191). -/
def addToA (b : Byte) (o : Operand) : Result :=
  if o.state.flag .D && o.state.decimalEnabled then .refused .decimalArithmetic
  else
    finish o.crossed
      ((o.state.setA (add8Result o.state.a b (o.state.flag .C))).setP
        (add8Flags o.state.p o.state.a b (o.state.flag .C)))

/-- ADC on its operand (R190). -/
def adc (o : Operand) : Result := addToA o.value o

/-- SBC on its operand (R192): the ones' complement of the operand is added. -/
def sbc (o : Operand) : Result := addToA (o.value ^^^ 0xFF) o

/-- CMP on its operand (R193): `Compare(A, M)`. -/
def cmp (o : Operand) : Result := finish o.crossed (o.state.setP (compareFlags o.state.p o.state.a o.value))

/-- CPX on its operand (R194). -/
def cpx (o : Operand) : Result := finish o.crossed (o.state.setP (compareFlags o.state.p o.state.x o.value))

/-- CPY on its operand (R195). -/
def cpy (o : Operand) : Result := finish o.crossed (o.state.setP (compareFlags o.state.p o.state.y o.value))

/-- INC's step on the byte (R196). -/
def incStep (m p : Byte) : Modified := { result := m + 1, p := setZN p (m + 1) }

/-- DEC's step on the byte (R199). -/
def decStep (m p : Byte) : Modified := { result := m - 1, p := setZN p (m - 1) }

/-- ADC #v (0x69): R190 with R123. -/
def execAdcImm (v : Byte) (s : State) : Result :=
  adc (operandImm v s)

/-- ADC z (0x65): R190 with R124. -/
def execAdcZp (z : Byte) (s : State) : Result :=
  adc (operandZp z s)

/-- ADC z,X (0x75): R190 with R125. -/
def execAdcZpx (z : Byte) (s : State) : Result :=
  adc (operandZpx z s)

/-- ADC addr (0x6D): R190 with R127. -/
def execAdcAbs (addr : Word) (s : State) : Result :=
  adc (operandAbs addr s)

/-- ADC base,X (0x7D): R190 with R128. -/
def execAdcAbx (base : Word) (s : State) : Result :=
  adc (operandAbx base s)

/-- ADC base,Y (0x79): R190 with R129. -/
def execAdcAby (base : Word) (s : State) : Result :=
  adc (operandAby base s)

/-- ADC (z,X) (0x61): R190 with R131. -/
def execAdcIzx (z : Byte) (s : State) : Result :=
  adc (operandIzx z s)

/-- ADC (z),Y (0x71): R190 with R132. -/
def execAdcIzy (z : Byte) (s : State) : Result :=
  adc (operandIzy z s)

/-- SBC #v (0xE9): R192 with R123. -/
def execSbcImm (v : Byte) (s : State) : Result :=
  sbc (operandImm v s)

/-- SBC z (0xE5): R192 with R124. -/
def execSbcZp (z : Byte) (s : State) : Result :=
  sbc (operandZp z s)

/-- SBC z,X (0xF5): R192 with R125. -/
def execSbcZpx (z : Byte) (s : State) : Result :=
  sbc (operandZpx z s)

/-- SBC addr (0xED): R192 with R127. -/
def execSbcAbs (addr : Word) (s : State) : Result :=
  sbc (operandAbs addr s)

/-- SBC base,X (0xFD): R192 with R128. -/
def execSbcAbx (base : Word) (s : State) : Result :=
  sbc (operandAbx base s)

/-- SBC base,Y (0xF9): R192 with R129. -/
def execSbcAby (base : Word) (s : State) : Result :=
  sbc (operandAby base s)

/-- SBC (z,X) (0xE1): R192 with R131. -/
def execSbcIzx (z : Byte) (s : State) : Result :=
  sbc (operandIzx z s)

/-- SBC (z),Y (0xF1): R192 with R132. -/
def execSbcIzy (z : Byte) (s : State) : Result :=
  sbc (operandIzy z s)

/-- CMP #v (0xC9): R193 with R123. -/
def execCmpImm (v : Byte) (s : State) : Result :=
  cmp (operandImm v s)

/-- CMP z (0xC5): R193 with R124. -/
def execCmpZp (z : Byte) (s : State) : Result :=
  cmp (operandZp z s)

/-- CMP z,X (0xD5): R193 with R125. -/
def execCmpZpx (z : Byte) (s : State) : Result :=
  cmp (operandZpx z s)

/-- CMP addr (0xCD): R193 with R127. -/
def execCmpAbs (addr : Word) (s : State) : Result :=
  cmp (operandAbs addr s)

/-- CMP base,X (0xDD): R193 with R128. -/
def execCmpAbx (base : Word) (s : State) : Result :=
  cmp (operandAbx base s)

/-- CMP base,Y (0xD9): R193 with R129. -/
def execCmpAby (base : Word) (s : State) : Result :=
  cmp (operandAby base s)

/-- CMP (z,X) (0xC1): R193 with R131. -/
def execCmpIzx (z : Byte) (s : State) : Result :=
  cmp (operandIzx z s)

/-- CMP (z),Y (0xD1): R193 with R132. -/
def execCmpIzy (z : Byte) (s : State) : Result :=
  cmp (operandIzy z s)

/-- CPX #v (0xE0): R194 with R123. -/
def execCpxImm (v : Byte) (s : State) : Result :=
  cpx (operandImm v s)

/-- CPX z (0xE4): R194 with R124. -/
def execCpxZp (z : Byte) (s : State) : Result :=
  cpx (operandZp z s)

/-- CPX addr (0xEC): R194 with R127. -/
def execCpxAbs (addr : Word) (s : State) : Result :=
  cpx (operandAbs addr s)

/-- CPY #v (0xC0): R195 with R123. -/
def execCpyImm (v : Byte) (s : State) : Result :=
  cpy (operandImm v s)

/-- CPY z (0xC4): R195 with R124. -/
def execCpyZp (z : Byte) (s : State) : Result :=
  cpy (operandZp z s)

/-- CPY addr (0xCC): R195 with R127. -/
def execCpyAbs (addr : Word) (s : State) : Result :=
  cpy (operandAbs addr s)

/-- INC z (0xE6): R196 with R124. -/
def execIncZp (z : Byte) (s : State) : Result :=
  readModifyWrite incStep (addrZp z s)

/-- INC z,X (0xF6): R196 with R125. -/
def execIncZpx (z : Byte) (s : State) : Result :=
  readModifyWrite incStep (addrZpx z s)

/-- INC addr (0xEE): R196 with R127. -/
def execIncAbs (addr : Word) (s : State) : Result :=
  readModifyWrite incStep (addrAbs addr s)

/-- INC base,X (0xFE): R196 with R128. -/
def execIncAbx (base : Word) (s : State) : Result :=
  readModifyWrite incStep (addrAbx base s)

/-- INX (0xE8): R197 with R121. -/
def execInx (s : State) : Result :=
  finish false ((s.setX (s.x + 1)).setZN (s.x + 1))

/-- INY (0xC8): R198 with R121. -/
def execIny (s : State) : Result :=
  finish false ((s.setY (s.y + 1)).setZN (s.y + 1))

/-- DEC z (0xC6): R199 with R124. -/
def execDecZp (z : Byte) (s : State) : Result :=
  readModifyWrite decStep (addrZp z s)

/-- DEC z,X (0xD6): R199 with R125. -/
def execDecZpx (z : Byte) (s : State) : Result :=
  readModifyWrite decStep (addrZpx z s)

/-- DEC addr (0xCE): R199 with R127. -/
def execDecAbs (addr : Word) (s : State) : Result :=
  readModifyWrite decStep (addrAbs addr s)

/-- DEC base,X (0xDE): R199 with R128. -/
def execDecAbx (base : Word) (s : State) : Result :=
  readModifyWrite decStep (addrAbx base s)

/-- DEX (0xCA): R200 with R121. -/
def execDex (s : State) : Result :=
  finish false ((s.setX (s.x - 1)).setZN (s.x - 1))

/-- DEY (0x88): R201 with R121. -/
def execDey (s : State) : Result :=
  finish false ((s.setY (s.y - 1)).setZN (s.y - 1))

end Sys2Proof.Machine
end

