-- ==== Sys2Proof/Machine/Control.lean ====
section
/-! DEFINITION. Control transfer (47_control R230 to R241). -/

namespace Sys2Proof.Machine

/-- JMP to the resolved address (R230). -/
def jumpTo (r : Resolved) : Result := finish false (r.state.setPc r.ea)

/-- JSR to the resolved address (R231): pushes the address of the instruction's last byte. -/
def jumpToSubroutine (r : Resolved) : Result :=
  finish false ((push16 (r.state.pc - 1) r.state).setPc r.ea)

/-- `Branch(cond)` (R233): the offset is read in every case, and the crossing is reported only when the branch is taken. -/
def branch (cond : Bool) (r : Resolved) : Result :=
  if cond then .next ((r.state.setPc r.ea).setStatus { pageCrossed := r.crossed, branchTaken := true })
  else finish false r.state

/-- JMP addr (0x4C): R230 with R127. -/
def execJmpAbs (addr : Word) (s : State) : Result :=
  jumpTo (addrAbs addr s)

/-- JMP (ptr) (0x6C): R230 with R130. -/
def execJmpInd (ptr : Word) (s : State) : Result :=
  jumpTo (addrInd ptr s)

/-- JSR addr (0x20): R231 with R127. -/
def execJsr (addr : Word) (s : State) : Result :=
  jumpToSubroutine (addrAbs addr s)

/-- RTS (0x60): R232 with R121. -/
def execRts (s : State) : Result :=
  finish false (returnFromSubroutine s)

/-- BCC off (0x90): R234 with R133. -/
def execBcc (off : Byte) (s : State) : Result :=
  branch (s.flag .C == false) (addrRel off s)

/-- BCS off (0xB0): R235 with R133. -/
def execBcs (off : Byte) (s : State) : Result :=
  branch (s.flag .C == true) (addrRel off s)

/-- BEQ off (0xF0): R236 with R133. -/
def execBeq (off : Byte) (s : State) : Result :=
  branch (s.flag .Z == true) (addrRel off s)

/-- BMI off (0x30): R237 with R133. -/
def execBmi (off : Byte) (s : State) : Result :=
  branch (s.flag .N == true) (addrRel off s)

/-- BNE off (0xD0): R238 with R133. -/
def execBne (off : Byte) (s : State) : Result :=
  branch (s.flag .Z == false) (addrRel off s)

/-- BPL off (0x10): R239 with R133. -/
def execBpl (off : Byte) (s : State) : Result :=
  branch (s.flag .N == false) (addrRel off s)

/-- BVC off (0x50): R240 with R133. -/
def execBvc (off : Byte) (s : State) : Result :=
  branch (s.flag .V == false) (addrRel off s)

/-- BVS off (0x70): R241 with R133. -/
def execBvs (off : Byte) (s : State) : Result :=
  branch (s.flag .V == true) (addrRel off s)

end Sys2Proof.Machine
end

