-- ==== Sys2Proof/Machine/LoadStore.lean ====
section
/-! DEFINITION. Loads and stores (43_load_store R160 to R165). -/

namespace Sys2Proof.Machine

/-- LDA on its operand (R160): `A <- SetZN(M)`. -/
def lda (o : Operand) : Result := finish o.crossed ((o.state.setA o.value).setZN o.value)

/-- LDX on its operand (R161). -/
def ldx (o : Operand) : Result := finish o.crossed ((o.state.setX o.value).setZN o.value)

/-- LDY on its operand (R162). -/
def ldy (o : Operand) : Result := finish o.crossed ((o.state.setY o.value).setZN o.value)

/-- LDA #v (0xA9): R160 with R123. -/
def execLdaImm (v : Byte) (s : State) : Result :=
  lda (operandImm v s)

/-- LDA z (0xA5): R160 with R124. -/
def execLdaZp (z : Byte) (s : State) : Result :=
  lda (operandZp z s)

/-- LDA z,X (0xB5): R160 with R125. -/
def execLdaZpx (z : Byte) (s : State) : Result :=
  lda (operandZpx z s)

/-- LDA addr (0xAD): R160 with R127. -/
def execLdaAbs (addr : Word) (s : State) : Result :=
  lda (operandAbs addr s)

/-- LDA base,X (0xBD): R160 with R128. -/
def execLdaAbx (base : Word) (s : State) : Result :=
  lda (operandAbx base s)

/-- LDA base,Y (0xB9): R160 with R129. -/
def execLdaAby (base : Word) (s : State) : Result :=
  lda (operandAby base s)

/-- LDA (z,X) (0xA1): R160 with R131. -/
def execLdaIzx (z : Byte) (s : State) : Result :=
  lda (operandIzx z s)

/-- LDA (z),Y (0xB1): R160 with R132. -/
def execLdaIzy (z : Byte) (s : State) : Result :=
  lda (operandIzy z s)

/-- LDX #v (0xA2): R161 with R123. -/
def execLdxImm (v : Byte) (s : State) : Result :=
  ldx (operandImm v s)

/-- LDX z (0xA6): R161 with R124. -/
def execLdxZp (z : Byte) (s : State) : Result :=
  ldx (operandZp z s)

/-- LDX z,Y (0xB6): R161 with R126. -/
def execLdxZpy (z : Byte) (s : State) : Result :=
  ldx (operandZpy z s)

/-- LDX addr (0xAE): R161 with R127. -/
def execLdxAbs (addr : Word) (s : State) : Result :=
  ldx (operandAbs addr s)

/-- LDX base,Y (0xBE): R161 with R129. -/
def execLdxAby (base : Word) (s : State) : Result :=
  ldx (operandAby base s)

/-- LDY #v (0xA0): R162 with R123. -/
def execLdyImm (v : Byte) (s : State) : Result :=
  ldy (operandImm v s)

/-- LDY z (0xA4): R162 with R124. -/
def execLdyZp (z : Byte) (s : State) : Result :=
  ldy (operandZp z s)

/-- LDY z,X (0xB4): R162 with R125. -/
def execLdyZpx (z : Byte) (s : State) : Result :=
  ldy (operandZpx z s)

/-- LDY addr (0xAC): R162 with R127. -/
def execLdyAbs (addr : Word) (s : State) : Result :=
  ldy (operandAbs addr s)

/-- LDY base,X (0xBC): R162 with R128. -/
def execLdyAbx (base : Word) (s : State) : Result :=
  ldy (operandAbx base s)

/-- STA z (0x85): R163 with R124. -/
def execStaZp (z : Byte) (s : State) : Result :=
  storeTo (addrZp z s) s.a

/-- STA z,X (0x95): R163 with R125. -/
def execStaZpx (z : Byte) (s : State) : Result :=
  storeTo (addrZpx z s) s.a

/-- STA addr (0x8D): R163 with R127. -/
def execStaAbs (addr : Word) (s : State) : Result :=
  storeTo (addrAbs addr s) s.a

/-- STA base,X (0x9D): R163 with R128. -/
def execStaAbx (base : Word) (s : State) : Result :=
  storeTo (addrAbx base s) s.a

/-- STA base,Y (0x99): R163 with R129. -/
def execStaAby (base : Word) (s : State) : Result :=
  storeTo (addrAby base s) s.a

/-- STA (z,X) (0x81): R163 with R131. -/
def execStaIzx (z : Byte) (s : State) : Result :=
  storeTo (addrIzx z s) s.a

/-- STA (z),Y (0x91): R163 with R132. -/
def execStaIzy (z : Byte) (s : State) : Result :=
  storeTo (addrIzy z s) s.a

/-- STX z (0x86): R164 with R124. -/
def execStxZp (z : Byte) (s : State) : Result :=
  storeTo (addrZp z s) s.x

/-- STX z,Y (0x96): R164 with R126. -/
def execStxZpy (z : Byte) (s : State) : Result :=
  storeTo (addrZpy z s) s.x

/-- STX addr (0x8E): R164 with R127. -/
def execStxAbs (addr : Word) (s : State) : Result :=
  storeTo (addrAbs addr s) s.x

/-- STY z (0x84): R165 with R124. -/
def execStyZp (z : Byte) (s : State) : Result :=
  storeTo (addrZp z s) s.y

/-- STY z,X (0x94): R165 with R125. -/
def execStyZpx (z : Byte) (s : State) : Result :=
  storeTo (addrZpx z s) s.y

/-- STY addr (0x8C): R165 with R127. -/
def execStyAbs (addr : Word) (s : State) : Result :=
  storeTo (addrAbs addr s) s.y

end Sys2Proof.Machine
end

