-- ==== Sys2Proof/Machine/Logic.lean ====
section
/-! DEFINITION. Logical, bit-test, shift and rotate instructions (46_logic_shift R210 to R217). -/

namespace Sys2Proof.Machine

/-- AND on its operand (R210). -/
def andA (o : Operand) : Result :=
  finish o.crossed ((o.state.setA (o.state.a &&& o.value)).setZN (o.state.a &&& o.value))

/-- ORA on its operand (R211). -/
def oraA (o : Operand) : Result :=
  finish o.crossed ((o.state.setA (o.state.a ||| o.value)).setZN (o.state.a ||| o.value))

/-- EOR on its operand (R212). -/
def eorA (o : Operand) : Result :=
  finish o.crossed ((o.state.setA (o.state.a ^^^ o.value)).setZN (o.state.a ^^^ o.value))

/-- BIT on its operand (R213): Z from `A & M`, N and V from bits 7 and 6 of `M`. -/
def bitTest (o : Operand) : Result :=
  finish o.crossed
    (o.state.setP
      (setFlag (setFlag (setFlag o.state.p .Z ((o.state.a &&& o.value) == 0)) .N (o.value.getLsbD 7)) .V
        (o.value.getLsbD 6)))

/-- ASL's step on a byte and the status byte (42_flags R150, R214). -/
def aslStep (m p : Byte) : Modified := { result := (asl m).result, p := shiftFlags p (asl m) }

/-- LSR's step (R150, R215). -/
def lsrStep (m p : Byte) : Modified := { result := (lsr m).result, p := shiftFlags p (lsr m) }

/-- ROL's step (R150, R216): the carry in is `P.C` before the instruction. -/
def rolStep (m p : Byte) : Modified :=
  { result := (rol m (getFlag p .C)).result, p := shiftFlags p (rol m (getFlag p .C)) }

/-- ROR's step (R150, R217). -/
def rorStep (m p : Byte) : Modified :=
  { result := (ror m (getFlag p .C)).result, p := shiftFlags p (ror m (getFlag p .C)) }

/-- The accumulator form of a shift or rotate (R122, R214): operand and result are `A`. -/
def accumulatorShift (f : Byte → Byte → Modified) (s : State) : Result :=
  finish false ((s.setA (f s.a s.p).result).setP (f s.a s.p).p)

/-- AND #v (0x29): R210 with R123. -/
def execAndImm (v : Byte) (s : State) : Result :=
  andA (operandImm v s)

/-- AND z (0x25): R210 with R124. -/
def execAndZp (z : Byte) (s : State) : Result :=
  andA (operandZp z s)

/-- AND z,X (0x35): R210 with R125. -/
def execAndZpx (z : Byte) (s : State) : Result :=
  andA (operandZpx z s)

/-- AND addr (0x2D): R210 with R127. -/
def execAndAbs (addr : Word) (s : State) : Result :=
  andA (operandAbs addr s)

/-- AND base,X (0x3D): R210 with R128. -/
def execAndAbx (base : Word) (s : State) : Result :=
  andA (operandAbx base s)

/-- AND base,Y (0x39): R210 with R129. -/
def execAndAby (base : Word) (s : State) : Result :=
  andA (operandAby base s)

/-- AND (z,X) (0x21): R210 with R131. -/
def execAndIzx (z : Byte) (s : State) : Result :=
  andA (operandIzx z s)

/-- AND (z),Y (0x31): R210 with R132. -/
def execAndIzy (z : Byte) (s : State) : Result :=
  andA (operandIzy z s)

/-- ORA #v (0x09): R211 with R123. -/
def execOraImm (v : Byte) (s : State) : Result :=
  oraA (operandImm v s)

/-- ORA z (0x05): R211 with R124. -/
def execOraZp (z : Byte) (s : State) : Result :=
  oraA (operandZp z s)

/-- ORA z,X (0x15): R211 with R125. -/
def execOraZpx (z : Byte) (s : State) : Result :=
  oraA (operandZpx z s)

/-- ORA addr (0x0D): R211 with R127. -/
def execOraAbs (addr : Word) (s : State) : Result :=
  oraA (operandAbs addr s)

/-- ORA base,X (0x1D): R211 with R128. -/
def execOraAbx (base : Word) (s : State) : Result :=
  oraA (operandAbx base s)

/-- ORA base,Y (0x19): R211 with R129. -/
def execOraAby (base : Word) (s : State) : Result :=
  oraA (operandAby base s)

/-- ORA (z,X) (0x01): R211 with R131. -/
def execOraIzx (z : Byte) (s : State) : Result :=
  oraA (operandIzx z s)

/-- ORA (z),Y (0x11): R211 with R132. -/
def execOraIzy (z : Byte) (s : State) : Result :=
  oraA (operandIzy z s)

/-- EOR #v (0x49): R212 with R123. -/
def execEorImm (v : Byte) (s : State) : Result :=
  eorA (operandImm v s)

/-- EOR z (0x45): R212 with R124. -/
def execEorZp (z : Byte) (s : State) : Result :=
  eorA (operandZp z s)

/-- EOR z,X (0x55): R212 with R125. -/
def execEorZpx (z : Byte) (s : State) : Result :=
  eorA (operandZpx z s)

/-- EOR addr (0x4D): R212 with R127. -/
def execEorAbs (addr : Word) (s : State) : Result :=
  eorA (operandAbs addr s)

/-- EOR base,X (0x5D): R212 with R128. -/
def execEorAbx (base : Word) (s : State) : Result :=
  eorA (operandAbx base s)

/-- EOR base,Y (0x59): R212 with R129. -/
def execEorAby (base : Word) (s : State) : Result :=
  eorA (operandAby base s)

/-- EOR (z,X) (0x41): R212 with R131. -/
def execEorIzx (z : Byte) (s : State) : Result :=
  eorA (operandIzx z s)

/-- EOR (z),Y (0x51): R212 with R132. -/
def execEorIzy (z : Byte) (s : State) : Result :=
  eorA (operandIzy z s)

/-- BIT z (0x24): R213 with R124. -/
def execBitZp (z : Byte) (s : State) : Result :=
  bitTest (operandZp z s)

/-- BIT addr (0x2C): R213 with R127. -/
def execBitAbs (addr : Word) (s : State) : Result :=
  bitTest (operandAbs addr s)

/-- ASL A (0x0A): R214 with R122. -/
def execAslAcc (s : State) : Result :=
  accumulatorShift aslStep s

/-- ASL z (0x06): R214 with R124. -/
def execAslZp (z : Byte) (s : State) : Result :=
  readModifyWrite aslStep (addrZp z s)

/-- ASL z,X (0x16): R214 with R125. -/
def execAslZpx (z : Byte) (s : State) : Result :=
  readModifyWrite aslStep (addrZpx z s)

/-- ASL addr (0x0E): R214 with R127. -/
def execAslAbs (addr : Word) (s : State) : Result :=
  readModifyWrite aslStep (addrAbs addr s)

/-- ASL base,X (0x1E): R214 with R128. -/
def execAslAbx (base : Word) (s : State) : Result :=
  readModifyWrite aslStep (addrAbx base s)

/-- LSR A (0x4A): R215 with R122. -/
def execLsrAcc (s : State) : Result :=
  accumulatorShift lsrStep s

/-- LSR z (0x46): R215 with R124. -/
def execLsrZp (z : Byte) (s : State) : Result :=
  readModifyWrite lsrStep (addrZp z s)

/-- LSR z,X (0x56): R215 with R125. -/
def execLsrZpx (z : Byte) (s : State) : Result :=
  readModifyWrite lsrStep (addrZpx z s)

/-- LSR addr (0x4E): R215 with R127. -/
def execLsrAbs (addr : Word) (s : State) : Result :=
  readModifyWrite lsrStep (addrAbs addr s)

/-- LSR base,X (0x5E): R215 with R128. -/
def execLsrAbx (base : Word) (s : State) : Result :=
  readModifyWrite lsrStep (addrAbx base s)

/-- ROL A (0x2A): R216 with R122. -/
def execRolAcc (s : State) : Result :=
  accumulatorShift rolStep s

/-- ROL z (0x26): R216 with R124. -/
def execRolZp (z : Byte) (s : State) : Result :=
  readModifyWrite rolStep (addrZp z s)

/-- ROL z,X (0x36): R216 with R125. -/
def execRolZpx (z : Byte) (s : State) : Result :=
  readModifyWrite rolStep (addrZpx z s)

/-- ROL addr (0x2E): R216 with R127. -/
def execRolAbs (addr : Word) (s : State) : Result :=
  readModifyWrite rolStep (addrAbs addr s)

/-- ROL base,X (0x3E): R216 with R128. -/
def execRolAbx (base : Word) (s : State) : Result :=
  readModifyWrite rolStep (addrAbx base s)

/-- ROR A (0x6A): R217 with R122. -/
def execRorAcc (s : State) : Result :=
  accumulatorShift rorStep s

/-- ROR z (0x66): R217 with R124. -/
def execRorZp (z : Byte) (s : State) : Result :=
  readModifyWrite rorStep (addrZp z s)

/-- ROR z,X (0x76): R217 with R125. -/
def execRorZpx (z : Byte) (s : State) : Result :=
  readModifyWrite rorStep (addrZpx z s)

/-- ROR addr (0x6E): R217 with R127. -/
def execRorAbs (addr : Word) (s : State) : Result :=
  readModifyWrite rorStep (addrAbs addr s)

/-- ROR base,X (0x7E): R217 with R128. -/
def execRorAbx (base : Word) (s : State) : Result :=
  readModifyWrite rorStep (addrAbx base s)

end Sys2Proof.Machine
end

