-- ==== Sys2Proof/Machine/System.lean ====
section
/-! DEFINITION. System and flag instructions (48_system R250 to R260). -/

namespace Sys2Proof.Machine

/-- BRK (0x00): R250 with R121. -/
def execBrk (s : State) : Result :=
  finish false (enterInterrupt (s.pc + 1) (pushedByProgram s.p) irqVector s)

/-- RTI (0x40): R252 with R121. -/
def execRti (s : State) : Result :=
  finish false (returnFromInterrupt s)

/-- NOP (0xEA): R253 with R121. -/
def execNop (s : State) : Result :=
  finish false s

/-- CLC (0x18): R254 with R121. -/
def execClc (s : State) : Result :=
  finish false (s.setFlagTo .C false)

/-- SEC (0x38): R255 with R121. -/
def execSec (s : State) : Result :=
  finish false (s.setFlagTo .C true)

/-- CLI (0x58): R256 with R121. -/
def execCli (s : State) : Result :=
  finish false (s.setFlagTo .I false)

/-- SEI (0x78): R257 with R121. -/
def execSei (s : State) : Result :=
  finish false (s.setFlagTo .I true)

/-- CLV (0xB8): R258 with R121. -/
def execClv (s : State) : Result :=
  finish false (s.setFlagTo .V false)

/-- CLD (0xD8): R259 with R121. -/
def execCld (s : State) : Result :=
  finish false (s.setFlagTo .D false)

/-- SED (0xF8): R260 with R121. -/
def execSed (s : State) : Result :=
  finish false (s.setFlagTo .D true)

end Sys2Proof.Machine
end

