-- ==== Sys2Proof/Machine/TransferStack.lean ====
section
/-! DEFINITION. Register transfers and stack instructions (44_transfer_stack R170 to R185). -/

namespace Sys2Proof.Machine

/-- PLA on what was pulled (R182): `A <- SetZN(Pull())`. -/
def pla (v : Byte × State) : Result := finish false ((v.2.setA v.1).setZN v.1)

/-- PLP on what was pulled (R185): `P <- (v & 0xCF) | 0x20`. -/
def plp (v : Byte × State) : Result := finish false (v.2.setP (loadedStatus v.1))

/-- TAX (0xAA): R170 with R121. -/
def execTax (s : State) : Result :=
  finish false ((s.setX s.a).setZN s.a)

/-- TAY (0xA8): R171 with R121. -/
def execTay (s : State) : Result :=
  finish false ((s.setY s.a).setZN s.a)

/-- TXA (0x8A): R172 with R121. -/
def execTxa (s : State) : Result :=
  finish false ((s.setA s.x).setZN s.x)

/-- TYA (0x98): R173 with R121. -/
def execTya (s : State) : Result :=
  finish false ((s.setA s.y).setZN s.y)

/-- TSX (0xBA): R174 with R121. -/
def execTsx (s : State) : Result :=
  finish false ((s.setX s.sp).setZN s.sp)

/-- TXS (0x9A): R175 with R121. -/
def execTxs (s : State) : Result :=
  finish false (s.setSp s.x)

/-- PHA (0x48): R180 with R121. -/
def execPha (s : State) : Result :=
  finish false (push s.a s)

/-- PHP (0x08): R181 with R121. -/
def execPhp (s : State) : Result :=
  finish false (push (pushedByProgram s.p) s)

/-- PLA (0x68): R182 with R121. -/
def execPla (s : State) : Result :=
  pla (pull s)

/-- PLP (0x28): R185 with R121. -/
def execPlp (s : State) : Result :=
  plp (pull s)

end Sys2Proof.Machine
end

