-- ==== Sys2Proof/Machine/Trace.lean ====
section
/-! DEFINITION. The debug outputs (60_exceptions R299 to R302): the register snapshot, the Decode Trace record and the trace
line. Nothing an instruction does depends on them (R41). Log entry 11 names the text details the spec leaves open. -/

namespace Sys2Proof.Machine

/-- A hexadecimal digit in upper case (R302, D25). -/
def hexDigit (n : Nat) : Char :=
  ['0', '1', '2', '3', '4', '5', '6', '7', '8', '9', 'A', 'B', 'C', 'D', 'E', 'F'].getD n '0'

/-- A byte as two hex digits. -/
def hexByte (b : Byte) : Text := [hexDigit (b.toNat / 16), hexDigit (b.toNat % 16)]

/-- A word as four hex digits. -/
def hexWord (w : Word) : Text := hexByte (hi w) ++ hexByte (lo w)

/-- `format()` (R302): the register snapshot, 33 characters. -/
def formatRegisters (s : State) : Text :=
  ['A', ':'] ++ hexByte s.a ++ [' ', 'X', ':'] ++ hexByte s.x ++ [' ', 'Y', ':'] ++ hexByte s.y ++
  [' ', 'P', ':'] ++ hexByte s.p ++ [' ', 'S', 'P', ':'] ++ hexByte s.sp ++ [' ', 'P', 'C', ':'] ++ hexWord s.pc

/-- The three letters of a mnemonic (30_encoding R90). -/
def mnemonicText : Mnemonic → Text
  | .LDA => ['L', 'D', 'A']
  | .LDX => ['L', 'D', 'X']
  | .LDY => ['L', 'D', 'Y']
  | .STA => ['S', 'T', 'A']
  | .STX => ['S', 'T', 'X']
  | .STY => ['S', 'T', 'Y']
  | .TAX => ['T', 'A', 'X']
  | .TAY => ['T', 'A', 'Y']
  | .TXA => ['T', 'X', 'A']
  | .TYA => ['T', 'Y', 'A']
  | .TSX => ['T', 'S', 'X']
  | .TXS => ['T', 'X', 'S']
  | .PHA => ['P', 'H', 'A']
  | .PHP => ['P', 'H', 'P']
  | .PLA => ['P', 'L', 'A']
  | .PLP => ['P', 'L', 'P']
  | .ADC => ['A', 'D', 'C']
  | .SBC => ['S', 'B', 'C']
  | .CMP => ['C', 'M', 'P']
  | .CPX => ['C', 'P', 'X']
  | .CPY => ['C', 'P', 'Y']
  | .INC => ['I', 'N', 'C']
  | .INX => ['I', 'N', 'X']
  | .INY => ['I', 'N', 'Y']
  | .DEC => ['D', 'E', 'C']
  | .DEX => ['D', 'E', 'X']
  | .DEY => ['D', 'E', 'Y']
  | .AND => ['A', 'N', 'D']
  | .ORA => ['O', 'R', 'A']
  | .EOR => ['E', 'O', 'R']
  | .BIT => ['B', 'I', 'T']
  | .ASL => ['A', 'S', 'L']
  | .LSR => ['L', 'S', 'R']
  | .ROL => ['R', 'O', 'L']
  | .ROR => ['R', 'O', 'R']
  | .JMP => ['J', 'M', 'P']
  | .JSR => ['J', 'S', 'R']
  | .RTS => ['R', 'T', 'S']
  | .BCC => ['B', 'C', 'C']
  | .BCS => ['B', 'C', 'S']
  | .BEQ => ['B', 'E', 'Q']
  | .BMI => ['B', 'M', 'I']
  | .BNE => ['B', 'N', 'E']
  | .BPL => ['B', 'P', 'L']
  | .BVC => ['B', 'V', 'C']
  | .BVS => ['B', 'V', 'S']
  | .BRK => ['B', 'R', 'K']
  | .RTI => ['R', 'T', 'I']
  | .NOP => ['N', 'O', 'P']
  | .CLC => ['C', 'L', 'C']
  | .SEC => ['S', 'E', 'C']
  | .CLI => ['C', 'L', 'I']
  | .SEI => ['S', 'E', 'I']
  | .CLV => ['C', 'L', 'V']
  | .CLD => ['C', 'L', 'D']
  | .SED => ['S', 'E', 'D']

/-- The raw operand bytes as hex text (R300): two bytes are separated by a space (DEDUCED: the field has five characters). -/
def rawBytesText (width : Nat) (b1 b2 : Byte) : Text :=
  match width with
  | 0 => []
  | 1 => hexByte b1
  | _ => hexByte b1 ++ [' '] ++ hexByte b2

/-- The operand in assembler syntax (30_encoding R90, R300), for an instruction at `address` with operand bytes `b1`, `b2`;
a branch shows its target (DESIGN CHOICE, log entry 11). -/
def operandText (mode : Mode) (address : Word) (b1 b2 : Byte) : Text :=
  match mode with
  | .imp => []
  | .acc => ['A']
  | .imm => ['#', '$'] ++ hexByte b1
  | .zp => ['$'] ++ hexByte b1
  | .zpx => ['$'] ++ hexByte b1 ++ [',', 'X']
  | .zpy => ['$'] ++ hexByte b1 ++ [',', 'Y']
  | .abs => ['$'] ++ hexWord (mkWord b2 b1)
  | .abx => ['$'] ++ hexWord (mkWord b2 b1) ++ [',', 'X']
  | .aby => ['$'] ++ hexWord (mkWord b2 b1) ++ [',', 'Y']
  | .ind => ['(', '$'] ++ hexWord (mkWord b2 b1) ++ [')']
  | .izx => ['(', '$'] ++ hexByte b1 ++ [',', 'X', ')']
  | .izy => ['(', '$'] ++ hexByte b1 ++ [')', ',', 'Y']
  | .rel => ['$'] ++ hexWord (address + 2 + b1.signExtend 16)

/-- The Decode Trace record (R300) of the opcode fetched at `address`, the two bytes after it and the register snapshot; what
the source leaves open for an opcode with no ROM entry is a free value (log entry 10). -/
def traceRecord (address : Word) (op b1 b2 : Byte) (snapshot : Text) : TraceRecord :=
  match rom op with
  | some e =>
    { address := address, opcode := op, rawBytes := rawBytesText e.mode.operandWidth b1 b2
      mnemonic := mnemonicText e.mnemonic, operandText := operandText e.mode address b1 b2, snapshot := snapshot }
  | none =>
    { address := address, opcode := op
      rawBytes := (Config.unimplementedRecord address op b1 b2 snapshot).1
      mnemonic := (Config.unimplementedRecord address op b1 b2 snapshot).2.1
      operandText := (Config.unimplementedRecord address op b1 b2 snapshot).2.2
      snapshot := snapshot }

/-- The reads that filling the record makes of the `n` bytes after the opcode, at most two (log entry 10). -/
def traceReads (n : Nat) (address : Word) : List Access :=
  match n with
  | 0 => []
  | 1 => [.read (address + 1)]
  | _ => [.read (address + 1), .read (address + 2)]

/-- The trace snapshot of a step (40_engine R102), with `PC` still at the opcode: while `TRACE` is true the record is
overwritten, and there is none while it is false (10_state R20, R41, log entry 14). -/
def fillRecord (op : Byte) (s : State) : State :=
  if s.trace then
    { s with
      record := some (traceRecord s.pc op (s.mem.read (s.pc + 1)) (s.mem.read (s.pc + 2)) (formatRegisters s))
      accesses := s.accesses ++ traceReads (Config.traceReadCount op) s.pc }
  else { s with record := none }

/-- A text padded with spaces on the right to at least a width. -/
def padRight (n : Nat) (t : Text) : Text := t ++ List.replicate (n - t.length) ' '

/-- A text padded with spaces on the left to at least a width; it never truncates (R301, C13). -/
def padLeft (n : Nat) (t : Text) : Text := List.replicate (n - t.length) ' ' ++ t

/-- The trace line (R301): 4-digit address, 2-digit opcode, and the fields of widths 5, 4, 26 and 25. -/
def traceLine (r : TraceRecord) : Text :=
  hexWord r.address ++ hexByte r.opcode ++ padRight 5 r.rawBytes ++ padRight 4 r.mnemonic ++
  padRight 26 r.operandText ++ padLeft 25 r.snapshot

end Sys2Proof.Machine
end

