-- ==== Sys2Proof/Machine/Engine.lean ====
section
/-! DEFINITION. The parts of a step around the behaviour (40_engine R100 to R108): the outputs cleared, the interrupt check
(60_exceptions R277), the opcode fetch, the charging of cycles and the outcome; and the placing of an instruction where the
next step fetches. -/

namespace Sys2Proof.Machine

/-- The outputs of a step as it begins: nothing has passed through the port, nothing is charged. -/
def beginStep (s : State) : State :=
  { s with
    accesses := [], status := { pageCrossed := false, branchTaken := false }
    cycles := 0, outcome := .success }

/-- `InterruptCheck()` (R277): RESET, then NMI, then IRQ where `P.I` = 0; the first that is pending is serviced, its latch
cleared and 7 cycles charged, and the others stay pending. -/
def checkInterrupts (s : State) : State :=
  if s.resetLine then
    { loadVector resetVector s with resetLine := false, cycles := s.cycles + interruptCycles }
  else if s.nmi then
    { interruptSequence nmiVector s with nmi := false, cycles := s.cycles + interruptCycles }
  else if s.irq && !s.flag .I then
    { interruptSequence irqVector s with irq := false, cycles := s.cycles + interruptCycles }
  else s

/-- The opcode fetch (R101): one read at `PC`. -/
def fetchOpcode (s : State) : Byte × State := memRead s.pc s

/-- The bytes at `PC` and after, modulo 65536 (30_encoding R81): as many as the longest instruction has. -/
def fetchBytes (s : State) : List Byte :=
  [s.mem.read s.pc, s.mem.read (s.pc + 1), s.mem.read (s.pc + 2)]

/-- The fault of an opcode with no ROM entry (R103): the state the step leaves has the outcome and nothing else changed. -/
def unimplemented (op : Byte) (s : State) : Fault :=
  .unimplementedOpcode op { s with outcome := .unimplementedOpcode op }

/-- The cycles of the dispatch part (R106). -/
def chargedCycles (op : Byte) (st : Status) : Nat :=
  (if st.pageCrossed then cycCross op else cycBase op) + (if st.branchTaken then 1 else 0)

/-- The outcome of a step that executed an instruction (R105, R107): BRK is recognised by its opcode 0x00. DESIGN
CHOICE (log entry 5): BreakExecuted is an outcome of a next state. -/
def stepOutcome (op : Byte) (s : State) : StepOutcome :=
  if s.brkStrict && op == 0x00 then .breakExecuted op else .success

/-- The end of a step after its behaviour (R100): cycles charged, outcome given. -/
def endStep (op : Byte) (s : State) : State :=
  { s with cycles := s.cycles + chargedCycles op s.status, outcome := stepOutcome op s }

/-- The latches that the next interrupt check would service, cleared, so that the next fetch is at `PC`. -/
def withoutPendingInterrupts (s : State) : State :=
  { s with resetLine := false, nmi := false, irq := s.irq && s.flag .I }

/-- Writes bytes from an address up, modulo 65536. -/
def Memory.place (m : Memory) (a : Word) (bytes : List Byte) : Memory :=
  match bytes with
  | [] => m
  | b :: bytes => Memory.place (m.write a b) (a + 1) bytes

/-- The bytes placed in memory from `PC` up. -/
def placeAtPc (bytes : List Byte) (s : State) : State := s.setMem (s.mem.place s.pc bytes)

end Sys2Proof.Machine
end

