-- ==== Sys2Proof/Machine/Step.lean ====
section
/-! DEFINITION. One step (40_engine R100), and an instruction word placed where the next step fetches. -/

namespace Sys2Proof.Machine

/-- One step (R100): the interrupt check, the opcode fetch, the trace snapshot, then either the fault of a byte with no ROM
entry, or `PC` advanced past the opcode, the behaviour, its cycles and its outcome. -/
def step (s : State) : Host.Outcome State Fault Refusal :=
  let c := checkInterrupts (beginStep s)
  let f := fetchOpcode c
  let r := fillRecord f.1 f.2
  match decode (fetchBytes c) with
  | .error _ => .fault (unimplemented f.1 r)
  | .ok i _ =>
    match exec i (advance r) with
    | .next t => .next (endStep f.1 t)
    | .fault e => .fault e
    | .refused e => .refused e

/-- The state with the instruction word (numbered as spec/opcode_table.json numbers it) stored where the next step fetches its
instruction: at `PC`, with no interrupt to be serviced first (log entry 12). -/
def State.withFetchWord (s : State) (nbits w : Nat) : State :=
  placeAtPc (tableBytes nbits w) (withoutPendingInterrupts s)

end Sys2Proof.Machine
end

