-- ==== Sys2Proof/Machine/HostInterface.lean ====
section
/-! DEFINITION. What the host can do to CORE between steps (00_scope R13, 20_memory R71): the interrupt lines (60_exceptions
R276), the configuration inputs (10_state R39), memory, `reset()` (70_reset_and_hazards R310) and `run()` (40_engine R110). -/

namespace Sys2Proof.Machine

/-- The three interrupt lines (60_exceptions R275). -/
inductive InterruptLine where
  | irq | nmi | reset
  deriving DecidableEq, Repr

/-- `setInterruptLine(which, state)` (R276). -/
def setInterruptLine (w : InterruptLine) (b : Bool) (s : State) : State :=
  match w with
  | .irq => { s with irq := b }
  | .nmi => { s with nmi := b }
  | .reset => { s with resetLine := b }

/-- `getInterruptLine(which)` (R276). -/
def getInterruptLine (w : InterruptLine) (s : State) : Bool :=
  match w with
  | .irq => s.irq
  | .nmi => s.nmi
  | .reset => s.resetLine

/-- The host's enabling of strict BRK mode (R13, R39). -/
def setBrkStrict (b : Bool) (s : State) : State := { s with brkStrict := b }

/-- `enableTrace()` (R39). -/
def enableTrace (s : State) : State := { s with trace := true }

/-- `toggleTrace()` (R39): inverts `TRACE` and returns its new value; there is no record while it is false (R20). -/
def toggleTrace (s : State) : Bool × State :=
  (!s.trace, { s with trace := !s.trace, record := if s.trace then none else s.record })

/-- `disableDecimalMode()` (R39). -/
def disableDecimalMode (s : State) : State := { s with decimalEnabled := false }

/-- The host writes a byte of its memory between steps (20_memory R71). -/
def hostWrite (a : Word) (v : Byte) (s : State) : State := s.setMem (s.mem.write a v)

/-- `reset()` (R310): the memory becomes M0, the registers their reset values, `PC` the word at the RESET vector, the latches
the values of R314; the configuration inputs are not touched and no cycles are reported (R316). DESIGN CHOICE (log entry 8): the
outputs of the model are cleared and the port's record holds the two vector reads. -/
def hostReset (r : ResetParams) (m0 : Memory) (s : State) : State :=
  let t : State :=
    { s with
      a := r.a, x := r.x, y := r.y, p := 0x24, sp := 0xFD, pc := resetVector
      mem := m0, record := none, accesses := []
      status := { pageCrossed := false, branchTaken := false }, cycles := 0, outcome := .success }
  { loadVector resetVector t with resetLine := false, irq := r.irq, nmi := r.nmi }

/-- An event of the host between steps (R13). -/
inductive HostEvent where
  | setLine (w : InterruptLine) (b : Bool)
  | setBrkStrict (b : Bool)
  | enableTrace
  | toggleTrace
  | disableDecimalMode
  | writeMemory (a : Word) (v : Byte)
  | reset (r : ResetParams) (m0 : Memory)
  deriving DecidableEq, Repr

/-- The state after an event of the host. -/
def hostEvent (e : HostEvent) (s : State) : State :=
  match e with
  | .setLine w b => setInterruptLine w b s
  | .setBrkStrict b => Machine.setBrkStrict b s
  | .enableTrace => Machine.enableTrace s
  | .toggleTrace => (Machine.toggleTrace s).2
  | .disableDecimalMode => Machine.disableDecimalMode s
  | .writeMemory a v => hostWrite a v s
  | .reset r m0 => hostReset r m0 s

/-- How a bounded `run()` went: it ended with an outcome that is not Success, or it is still running, or a step of it has no
meaning. -/
inductive RunEnd where
  | ended (o : StepOutcome) (left : State)
  | unfinished (s : State)
  | refused (r : Refusal)
  deriving DecidableEq, Repr

/-- The state a fault leaves, from which the host may step again (40_engine R111). -/
def stateAfterFault : Fault → State
  | .unimplementedOpcode _ left => left

/-- `run()` (R110) bounded to a number of steps (log entry 17): steps until the outcome is not Success. -/
def run : Nat → State → RunEnd
  | 0, s => .unfinished s
  | n + 1, s =>
    match step s with
    | .next t => if t.outcome = .success then run n t else .ended t.outcome t
    | .fault (.unimplementedOpcode op left) => .ended (.unimplementedOpcode op) left
    | .refused r => .refused r

/-- The spec's number of an exception (60_exceptions R273, D19). -/
def exceptionNumber : StepOutcome → Option Nat
  | .success => none
  | .unimplementedOpcode _ => some 1
  | .breakExecuted _ => some 2

end Sys2Proof.Machine
end

