-- ==== Sys2Proof/Safety.lean ====
section
/-! DEFINITION. What counts as a safe machine and a good run: the invariant of the state and the two ends of a run. -/

namespace Sys2Proof.Machine

/-- The hard-wired bits of `P` (10_state R34, R35, R37): `P & 0x30 = 0x20`. -/
def statusHardwired (p : Byte) : Bool := (p &&& 0x30) == 0x20

/-- The invariant: `P`'s hard-wired bits, the memory in its canonical form, and no trace record while `TRACE` is false (R20). -/
def State.Inv (s : State) : Prop :=
  statusHardwired s.p = true ∧ s.mem.wf = true ∧ (s.trace = false → s.record = none)

/-- An event the host may give: a memory it hands to `reset()` is in the canonical form. -/
def HostEvent.wf : HostEvent → Bool
  | .reset _ m0 => m0.wf
  | _ => true

/-- The designated good stop (40_engine R111): the last step executed BRK in strict mode. -/
def State.goodStop (s : State) : Prop := ∃ op, s.outcome = .breakExecuted op

/-- The instructions that a state refuses (45_arithmetic R191): ADC and SBC with `P.D` = 1 and `DECIMAL_ENABLED`. -/
def refusesDecimal (s : State) : Bool := s.flag .D && s.decimalEnabled

/-- States that some sequence of host events and steps leads to from the state after reset. -/
inductive Reachable : State → Prop where
  | reset : Reachable State.reset
  | host {s : State} (e : HostEvent) : e.wf = true → Reachable s → Reachable (hostEvent e s)
  | step {s t : State} : Reachable s → step s = .next t → Reachable t
  | resume {s : State} (f : Fault) : Reachable s → step s = .fault f → Reachable (stateAfterFault f)

end Sys2Proof.Machine
end

