-- ==== Sys2Proof/Certificates/Slice0/Obligations.lean ====
section
/-! DEFINITION. The statements about CORE, from the numbered rules of spec/, and the words they are written in. exec starts
where the engine leaves a behaviour: PC at the byte after the opcode (40_engine R104), so an instruction of n bytes ends with
PC advanced by n - 1. -/

open Sys2Proof Sys2Proof.Machine

namespace Sys2Proof.Claims

/-- The instruction's bytes (R81, R86) and its two cycle counts (R330). -/
def Encoded (i : Instr) (bytes : List Byte) (base cross : Nat) : Prop :=
  encode i = bytes ∧ cycBase (bytes.headD 0) = base ∧ cycCross (bytes.headD 0) = cross

/-- The mnemonic of an instruction: that of its opcode's ROM entry (R86). -/
def mnemonicOf (i : Instr) : Option Mnemonic := ((encode i).head?.bind rom).map fun e => e.mnemonic

/-- A Boolean as a number (R8). -/
def bit (b : Bool) : Nat := if b then 1 else 0

/-- Every flag outside the list is as it was (R140). -/
def KeepsFlagsBut (p q : Byte) (written : List Flag) : Prop :=
  ∀ f : Flag, f ∉ written → getFlag q f = getFlag p f

/-- Z and N are those of the byte, the other six flags as they were (R142). -/
def SetsZN (p q v : Byte) : Prop :=
  getFlag q .Z = (v == 0) ∧ getFlag q .N = v.getLsbD 7 ∧ KeepsFlagsBut p q [.Z, .N]

/-- One flag is given a value, the other seven are as they were. -/
def SetsFlag (p q : Byte) (f : Flag) (b : Bool) : Prop :=
  getFlag q f = b ∧ KeepsFlagsBut p q [f]

/-- What a comparison of `r` with `m` does to the flags (R149). -/
def SetsCompare (p q r m : Byte) : Prop :=
  getFlag q .C = decide (m.toNat ≤ r.toNat) ∧ getFlag q .Z = (r == m) ∧
  getFlag q .N = (BitVec.ofNat 8 (r.toNat + 256 - m.toNat)).getLsbD 7 ∧ KeepsFlagsBut p q [.C, .Z, .N]

/-- What a shift or rotate to `n` with carry out `c` does to the flags (R150). -/
def SetsShift (p q n : Byte) (c : Bool) : Prop :=
  getFlag q .C = c ∧ getFlag q .Z = (n == 0) ∧ getFlag q .N = n.getLsbD 7 ∧ KeepsFlagsBut p q [.C, .Z, .N]

/-- A binary addition `a + m + c` to `r` and its flags (R143, R144, R146). -/
def AddsTo (p q a m r : Byte) (c : Bool) : Prop :=
  r.toNat = (a.toNat + m.toNat + bit c) % 256 ∧
  getFlag q .C = decide (255 < a.toNat + m.toNat + bit c) ∧
  getFlag q .V = decide (a.toInt + m.toInt + bit c < -128 ∨ 127 < a.toInt + m.toInt + bit c) ∧
  getFlag q .Z = (r == 0) ∧ getFlag q .N = r.getLsbD 7 ∧ KeepsFlagsBut p q [.C, .V, .Z, .N]

/-- A binary subtraction `a - m - (1 - c)` to `r` and its flags (R192). -/
def SubtractsTo (p q a m r : Byte) (c : Bool) : Prop :=
  (r.toNat : Int) = ((a.toNat : Int) - m.toNat - (1 - bit c)) % 256 ∧
  getFlag q .C = decide (0 ≤ (a.toNat : Int) - m.toNat - (1 - bit c)) ∧
  getFlag q .V = decide (a.toInt - m.toInt - (1 - bit c) < -128 ∨ 127 < a.toInt - m.toInt - (1 - bit c)) ∧
  getFlag q .Z = (r == 0) ∧ getFlag q .N = r.getLsbD 7 ∧ KeepsFlagsBut p q [.C, .V, .Z, .N]

/-- Every byte of memory reads as before. -/
def SameMemory (s t : State) : Prop := ∀ b : Word, t.mem.read b = s.mem.read b

/-- The byte at `a` reads `v`, every other byte as before. -/
def StoresAt (s t : State) (a : Word) (v : Byte) : Prop :=
  t.mem.read a = v ∧ ∀ b : Word, b ≠ a → t.mem.read b = s.mem.read b

/-- A read instruction (R113) completes: PC is past its operand bytes, its status is the resolver's, its accesses are those of
its operand, memory reads as before, and what `post` says. -/
def ReadsOperand (i : Instr) (s : State) (o : Operand) (width : Word) (post : State → Prop) : Prop :=
  ∃ t, exec i s = .next t ∧ t.pc = s.pc + width ∧ t.status = { pageCrossed := o.crossed, branchTaken := false } ∧
    t.accesses = o.state.accesses ∧ SameMemory s t ∧ post t

/-- A read instruction that leaves `v` in A and sets Z and N from it; everything else is as before. -/
def LoadsA (i : Instr) (s : State) (o : Operand) (width : Word) (v : Byte) : Prop :=
  ReadsOperand i s o width fun t => t.a = v ∧ SetsZN s.p t.p v ∧
    t = { s with a := t.a, p := t.p, pc := t.pc, accesses := t.accesses, status := t.status }

/-- The same for X. -/
def LoadsX (i : Instr) (s : State) (o : Operand) (width : Word) (v : Byte) : Prop :=
  ReadsOperand i s o width fun t => t.x = v ∧ SetsZN s.p t.p v ∧
    t = { s with x := t.x, p := t.p, pc := t.pc, accesses := t.accesses, status := t.status }

/-- The same for Y. -/
def LoadsY (i : Instr) (s : State) (o : Operand) (width : Word) (v : Byte) : Prop :=
  ReadsOperand i s o width fun t => t.y = v ∧ SetsZN s.p t.p v ∧
    t = { s with y := t.y, p := t.p, pc := t.pc, accesses := t.accesses, status := t.status }

/-- A read instruction that changes nothing but flags (and PC), as `flags` says of the new P. -/
def TestsFlags (i : Instr) (s : State) (o : Operand) (width : Word) (flags : Byte → Prop) : Prop :=
  ReadsOperand i s o width fun t => flags t.p ∧
    t = { s with p := t.p, pc := t.pc, accesses := t.accesses, status := t.status }

/-- ADC or SBC: refused in decimal mode (R191), else `A` and the flags as `sum` says; everything else is as before. -/
def AddsOrRefuses (i : Instr) (s : State) (o : Operand) (width : Word) (sum : Byte → Byte → Prop) : Prop :=
  (s.flag .D = true → s.decimalEnabled = true → exec i s = .refused .decimalArithmetic) ∧
  (s.flag .D = false ∨ s.decimalEnabled = false →
    ReadsOperand i s o width fun t => sum t.p t.a ∧
      t = { s with a := t.a, p := t.p, pc := t.pc, accesses := t.accesses, status := t.status })

/-- A write instruction (R113) stores `v` at its effective address: one write, no read of it, no flag. -/
def StoresByte (i : Instr) (s : State) (r : Resolved) (width : Word) (v : Byte) : Prop :=
  ∃ t, exec i s = .next t ∧ StoresAt s t r.ea v ∧ t.pc = s.pc + width ∧
    t.status = { pageCrossed := r.crossed, branchTaken := false } ∧
    t.accesses = r.state.accesses ++ [.write r.ea v] ∧
    t = { s with pc := t.pc, mem := t.mem, accesses := t.accesses, status := t.status }

/-- A read-modify-write instruction (R113) replaces the byte at its effective address by `n`: one read, one write. -/
def Modifies (i : Instr) (s : State) (r : Resolved) (width : Word) (n : Byte) (flags : Byte → Prop) : Prop :=
  ∃ t, exec i s = .next t ∧ StoresAt s t r.ea n ∧ flags t.p ∧ t.pc = s.pc + width ∧
    t.status = { pageCrossed := r.crossed, branchTaken := false } ∧
    t.accesses = r.state.accesses ++ [.read r.ea, .write r.ea n] ∧
    t = { s with p := t.p, pc := t.pc, mem := t.mem, accesses := t.accesses, status := t.status }

/-- A one-byte instruction that makes no access and reports nothing completes: `post` says what it does, memory reads as before. -/
def Implied (i : Instr) (s : State) (post : State → Prop) : Prop :=
  ∃ t, exec i s = .next t ∧ t.status = { pageCrossed := false, branchTaken := false } ∧ SameMemory s t ∧ post t

/-- It leaves `v` in A and sets Z and N from it. -/
def ImpliedA (i : Instr) (s : State) (v : Byte) : Prop :=
  Implied i s fun t => t.a = v ∧ SetsZN s.p t.p v ∧ t = { s with a := t.a, p := t.p, status := t.status }

/-- It leaves `v` in X and sets Z and N from it. -/
def ImpliedX (i : Instr) (s : State) (v : Byte) : Prop :=
  Implied i s fun t => t.x = v ∧ SetsZN s.p t.p v ∧ t = { s with x := t.x, p := t.p, status := t.status }

/-- It leaves `v` in Y and sets Z and N from it. -/
def ImpliedY (i : Instr) (s : State) (v : Byte) : Prop :=
  Implied i s fun t => t.y = v ∧ SetsZN s.p t.p v ∧ t = { s with y := t.y, p := t.p, status := t.status }

/-- It writes one flag and nothing else. -/
def ImpliedFlag (i : Instr) (s : State) (f : Flag) (b : Bool) : Prop :=
  Implied i s fun t => SetsFlag s.p t.p f b ∧ t = { s with p := t.p, status := t.status }

/-- The accumulator form of a shift: A becomes `n`, carry out `c`. -/
def ShiftsA (i : Instr) (s : State) (n : Byte) (c : Bool) : Prop :=
  Implied i s fun t => t.a = n ∧ SetsShift s.p t.p n c ∧ t = { s with a := t.a, p := t.p, status := t.status }

/-- A conditional branch (R233): taken exactly when `cond`; the offset byte is read in every case. -/
def Branches (i : Instr) (s : State) (off : Byte) (cond : Bool) : Prop :=
  ∃ t, exec i s = .next t ∧
    (cond = true → t.pc = (addrRel off s).ea ∧ t.status = { pageCrossed := (addrRel off s).crossed, branchTaken := true }) ∧
    (cond = false → t.pc = s.pc + 1 ∧ t.status = { pageCrossed := false, branchTaken := false }) ∧
    t.accesses = s.accesses ++ [.read s.pc] ∧ SameMemory s t ∧
    t = { s with pc := t.pc, accesses := t.accesses, status := t.status }

/-- A resolver (R120): the effective address as a number, the crossing it reports, PC past the operand bytes, its reads in
order, and nothing else changed. -/
def Resolves (r : Resolved) (s : State) (ea : Nat) (crossed : Bool) (width : Word) (reads : List Access) : Prop :=
  r.ea.toNat = ea ∧ r.crossed = crossed ∧ r.state = { s with pc := s.pc + width, accesses := s.accesses ++ reads }

/-- The operand of a read instruction (R113): the byte at the effective address, read after the resolver. -/
def IsByteAt (o : Operand) (r : Resolved) (s : State) : Prop :=
  o.value = s.mem.read r.ea ∧ o.crossed = r.crossed ∧
  o.state = { r.state with accesses := r.state.accesses ++ [.read r.ea] }

/-- An interrupt entry from `s` to `c` (R280, R250): what is pushed and where, SP, P.I, PC from the vector as memory held it,
the five accesses in order, and nothing else changed. -/
def EntersInterrupt (s c : State) (returnTo : Word) (status : Byte) (vector : Word) : Prop :=
  c.mem.read (stackSlot s.sp) = hi returnTo ∧ c.mem.read (stackSlot (s.sp - 1)) = lo returnTo ∧
  c.mem.read (stackSlot (s.sp - 2)) = status ∧
  (∀ b : Word, b ≠ stackSlot s.sp → b ≠ stackSlot (s.sp - 1) → b ≠ stackSlot (s.sp - 2) →
    c.mem.read b = s.mem.read b) ∧
  c.sp = s.sp - 3 ∧ SetsFlag s.p c.p .I true ∧
  c.pc = mkWord (s.mem.read (vector + 1)) (s.mem.read vector) ∧
  c.accesses = s.accesses ++
    [.write (stackSlot s.sp) (hi returnTo), .write (stackSlot (s.sp - 1)) (lo returnTo),
      .write (stackSlot (s.sp - 2)) status, .read vector, .read (vector + 1)] ∧
  c = { s with sp := c.sp, p := c.p, pc := c.pc, mem := c.mem, accesses := c.accesses }

/-- What the memory of a state holds at a vector's address, low byte first (R54). -/
def vectorWord (s : State) (vector : Word) : Word := mkWord (s.mem.read (vector + 1)) (s.mem.read vector)

/-- The state a step fetches from: its outputs cleared and its interrupt check done (R100, R101). -/
def atFetch (s : State) : State := checkInterrupts (beginStep s)

/-- The opcode byte a step fetches (R101). -/
def fetched (s : State) : Byte := (atFetch s).mem.read (atFetch s).pc

/-- No interrupt is serviced at the start of a step from this state (R277). -/
abbrev NoInterrupt (s : State) : Prop := s.resetLine = false ∧ s.nmi = false ∧ (s.irq = false ∨ s.flag .I = true)

/-- Two states that differ at most in the trace and in what passed through the port. -/
def SameButTrace (s t : State) : Prop :=
  t = { s with trace := t.trace, record := t.record, accesses := t.accesses }

/-- Two results of a step whose states differ at most in the trace and in what passed through the port. -/
def ResultSameButTrace : Result → Result → Prop
  | .next s, .next t => SameButTrace s t
  | .fault (.unimplementedOpcode op s), .fault (.unimplementedOpcode op' t) => op = op' ∧ SameButTrace s t
  | .refused r, .refused r' => r = r'
  | _, _ => False

/-- The same operation applied a number of times. -/
def times {α : Type} (f : α → α) : Nat → α → α
  | 0, a => a
  | n + 1, a => times f n (f a)

end Sys2Proof.Claims

open Sys2Proof.Claims

/-- When the bytes at PC decode to an instruction, the step is that instruction's behaviour with the engine's parts around it (40_engine R100, R101, R104, R106, R285) -/
def Obligations.StepRunsTheDecodedInstruction : Prop :=
  ∀ (s : State) (i : Instr) (rest : List Byte), decode (fetchBytes (atFetch s)) = .ok i rest →
    let c := atFetch s
    let op := fetched s
    let b := advance (fillRecord op (c.log (.read c.pc)))
    (∀ t, exec i b = .next t →
      step s = .next { t with
        cycles := t.cycles + ((if t.status.pageCrossed then cycCross op else cycBase op) + bit t.status.branchTaken)
        outcome := if t.brkStrict && op == 0x00 then .breakExecuted op else .success }) ∧
    (∀ r, exec i b = .refused r → step s = .refused r) ∧
    (s.trace = false →
      b = { c with pc := c.pc + 1, accesses := c.accesses ++ [.read c.pc], record := none })

/-- Decoding inverts encoding for every instruction at every operand value, and every decoding is of an encoding (30_encoding R80, R81, R84, R86, R89) -/
def Obligations.DecodeAndEncodeAgree : Prop :=
  (∀ (i : Instr) (rest : List Byte), decode (encode i ++ rest) = .ok i rest) ∧
  (∀ (bs : List Byte) (i : Instr) (rest : List Byte), decode bs = .ok i rest → bs = encode i ++ rest)

/-- An instruction whose bytes lie where the step fetches, modulo 65536, is the one that step decodes; with no interrupt to service that place is PC (30_encoding R81, 40_engine R100, R101) -/
def Obligations.PlacedInstructionIsFetched : Prop :=
  ∀ (s : State) (i : Instr),
    ((∀ (k : Nat) (b : Byte), (encode i)[k]? = some b →
        (atFetch s).mem.read ((atFetch s).pc + BitVec.ofNat 16 k) = b) →
      ∃ rest, decode (fetchBytes (atFetch s)) = .ok i rest) ∧
    (NoInterrupt s →
      (∀ (k : Nat) (b : Byte), (encode i)[k]? = some b → s.mem.read (s.pc + BitVec.ofNat 16 k) = b) →
      ∃ rest, decode (fetchBytes (atFetch s)) = .ok i rest)

/-- Words written out from the opcode matrix decode to the instructions they stand for, one or more per family (30_encoding R86, R88, 95_test_vectors) -/
def Obligations.SampleWordsDecode : Prop :=
  decode [0xA9, 0x42] = .ok (.ldaImm 0x42) [] ∧ decode [0xAD, 0x34, 0x12] = .ok (.ldaAbs 0x1234) [] ∧
  decode [0x96, 0xFF] = .ok (.stxZpy 0xFF) [] ∧ decode [0xAA] = .ok .tax [] ∧ decode [0x08] = .ok .php [] ∧
  decode [0x71, 0x40] = .ok (.adcIzy 0x40) [] ∧ decode [0xFE, 0x01, 0x20] = .ok (.incAbx 0x2001) [] ∧
  decode [0x24, 0x10] = .ok (.bitZp 0x10) [] ∧ decode [0x2A] = .ok .rolAcc [] ∧
  decode [0x6C, 0xFF, 0x30] = .ok (.jmpInd 0x30FF) [] ∧ decode [0x20, 0x34, 0x12] = .ok (.jsr 0x1234) [] ∧
  decode [0xD0, 0xFB] = .ok (.bne 0xFB) [] ∧ decode [0x00] = .ok .brk [] ∧ decode [0x40] = .ok .rti [] ∧
  decode [0xEA] = .ok .nop [] ∧ decode [0x02] = .error (.unimplemented 0x02) ∧
  decode [0x89, 0x00] = .error (.unimplemented 0x89)

/-- ROM slots are empty exactly at the 105 bytes of R88, byte 0 fixes the length, CYC_CROSS exceeds CYC_BASE by one at 31 opcodes (30_encoding R84, R88, R89, 70_reset_and_hazards R330, R331) -/
def Obligations.OpcodeTablesAreTheListedOnes : Prop :=
  (∀ op : Byte, rom op = none ↔ op ∈ illegalOpcodes) ∧ illegalOpcodes.length = 105 ∧ illegalOpcodes.Nodup ∧
  (∀ (op : Byte) (e : RomEntry), rom op = some e → e.length = lengthOf op) ∧
  (∀ op : Byte, cycCross op = cycBase op ∨ cycCross op = cycBase op + 1) ∧
  ((List.range 256).filter fun n => cycCross (BitVec.ofNat 8 n) != cycBase (BitVec.ofNat 8 n)).length = 31 ∧
  (∀ op : Byte, rom op = none → cycBase op = 0 ∧ cycCross op = 0)

/-- A byte with no ROM entry ends the step with its fault; fetch and dispatch change no register, latch or memory byte, PC included (R103) -/
def Obligations.UnimplementedOpcodeChangesNothing : Prop :=
  ∀ s : State, rom (fetched s) = none →
    ∃ left, step s = .fault (.unimplementedOpcode (fetched s) left) ∧
      left = { atFetch s with
        accesses := left.accesses, record := left.record, outcome := .unimplementedOpcode (fetched s) } ∧
      left.cycles = (atFetch s).cycles ∧ ((atFetch s).cycles = 0 ∨ (atFetch s).cycles = 7) ∧
      (∀ (a : Word) (v : Byte), Access.write a v ∈ left.accesses → Access.write a v ∈ (atFetch s).accesses) ∧
      (NoInterrupt s →
        left = { s with
          accesses := left.accesses, record := left.record, status := left.status, cycles := 0
          outcome := .unimplementedOpcode (fetched s) })

/-- A step succeeds or reports BreakExecuted, or faults on an illegal opcode, or is refused for decimal ADC or SBC: nothing else (40_engine R100, R107, 60_exceptions R272, 45_arithmetic R191) -/
def Obligations.EveryStepEndsInOneOfThreeWays : Prop :=
  ∀ s : State,
    (∃ t, step s = .next t ∧ (t.outcome = .success ∨ (t.outcome = .breakExecuted 0x00 ∧ s.brkStrict = true))) ∨
    (∃ left, step s = .fault (.unimplementedOpcode (fetched s) left) ∧ fetched s ∈ illegalOpcodes) ∨
    (step s = .refused .decimalArithmetic ∧ (atFetch s).flag .D = true ∧ s.decimalEnabled = true ∧
      ∃ e, rom (fetched s) = some e ∧ (e.mnemonic = .ADC ∨ e.mnemonic = .SBC))

/-- Every instruction answers a next state in every state, but for ADC and SBC in decimal mode, and these are refused there (40_engine R104, 60_exceptions R272, 45_arithmetic R191) -/
def Obligations.EveryBehaviourCompletesOutsideDecimalMode : Prop :=
  ∀ (i : Instr) (s : State),
    if (mnemonicOf i = some .ADC ∨ mnemonicOf i = some .SBC) ∧ s.flag .D = true ∧ s.decimalEnabled = true then
      exec i s = .refused .decimalArithmetic
    else ∃ t, exec i s = .next t

/-- Every step keeps the invariant: P.B = 0 and P.U = 1, memory in canonical form, no trace record while TRACE is false (10_state R34, R35, R37, R20) -/
def Obligations.StepKeepsTheInvariant : Prop :=
  ∀ s : State, s.Inv → (∀ t, step s = .next t → t.Inv) ∧ (∀ f, step s = .fault f → (stateAfterFault f).Inv)

/-- The state right after reset meets the invariant (10_state R37, R44) -/
def Obligations.ResetMeetsTheInvariant : Prop :=
  State.reset.Inv

/-- Every event of the host between steps keeps the invariant, reset() with any canonical memory included (00_scope R13, 10_state R37, 70_reset_and_hazards R310) -/
def Obligations.HostEventsKeepTheInvariant : Prop :=
  ∀ (e : HostEvent) (s : State), e.wf = true → s.Inv → (hostEvent e s).Inv

/-- Every state that host events, steps and resumed faults lead to from reset meets the invariant (10_state R37, 40_engine R111, 20_memory R71) -/
def Obligations.ReachableStatesMeetTheInvariant : Prop :=
  ∀ s : State, Reachable s → s.Inv

/-- reset() gives every register its reset value and PC the word at the RESET vector of M0, whatever came before; the model clears its outputs (log entries 2, 8) (70_reset_and_hazards R310, R311, R312, R313, R314, R316, 10_state R44) -/
def Obligations.ResetOperation : Prop :=
  ∀ (r : ResetParams) (m0 : Memory) (s : State),
    let t := hostReset r m0 s
    t.a = r.a ∧ t.x = r.x ∧ t.y = r.y ∧ t.p = 0x24 ∧ t.sp = 0xFD ∧
    t.pc = mkWord (m0.read 0xFFFD) (m0.read 0xFFFC) ∧ t.mem = m0 ∧
    t.accesses = [.read 0xFFFC, .read 0xFFFD] ∧
    t.resetLine = false ∧ t.irq = r.irq ∧ t.nmi = r.nmi ∧ t.record = none ∧
    t.cycles = 0 ∧ t.outcome = .success ∧ t.status = { pageCrossed := false, branchTaken := false } ∧
    t.brkStrict = s.brkStrict ∧ t.trace = s.trace ∧ t.decimalEnabled = s.decimalEnabled ∧
    (∀ u : State, u.brkStrict = s.brkStrict → u.trace = s.trace → u.decimalEnabled = s.decimalEnabled →
      hostReset r m0 u = t) ∧
    ((∀ a : Word, m0.read a = 0xFF) → r.nmi = false →
      t.pc = 0xFFFF ∧
      ∃ left, step t = .fault (.unimplementedOpcode 0xFF left) ∧ left.pc = 0xFFFF ∧ left.p = 0x24 ∧ left.sp = 0xFD)

/-- The state right after reset has the values the spec states; A, X, Y, IRQ, NMI, memory and outputs are the model's choice (log entries 1, 2, 3, 8) (10_state R44, 70_reset_and_hazards R311, R314) -/
def Obligations.ResetState : Prop :=
  State.reset.p = 0x24 ∧ State.reset.sp = 0xFD ∧ State.reset.pc = vectorWord State.reset resetVector ∧
  State.reset.resetLine = false ∧ State.reset.brkStrict = false ∧ State.reset.trace = false ∧
  State.reset.decimalEnabled = true ∧ State.reset.record = none ∧
  State.reset = hostReset ResetParams.default [] State.reset

/-- The interrupt check services RESET, else NMI, else IRQ if P.I is 0, charging 7 cycles, and otherwise changes nothing (R277) -/
def Obligations.InterruptCheckDecides : Prop :=
  ∀ s : State,
    (s.resetLine = true →
      checkInterrupts s = { loadVector 0xFFFC s with resetLine := false, cycles := s.cycles + 7 }) ∧
    (s.resetLine = false → s.nmi = true →
      checkInterrupts s = { interruptSequence 0xFFFA s with nmi := false, cycles := s.cycles + 7 }) ∧
    (s.resetLine = false → s.nmi = false → s.irq = true → s.flag .I = false →
      checkInterrupts s = { interruptSequence 0xFFFE s with irq := false, cycles := s.cycles + 7 }) ∧
    (NoInterrupt s → checkInterrupts s = s)

/-- IRQ and NMI entry push PC high, PC low and P with B clear and U set, set P.I, and load PC from the vector; nothing else changes (R280) -/
def Obligations.InterruptEntry : Prop :=
  ∀ s : State,
    EntersInterrupt s (interruptSequence 0xFFFA s) s.pc (pushedByInterrupt s.p) 0xFFFA ∧
    EntersInterrupt s (interruptSequence 0xFFFE s) s.pc (pushedByInterrupt s.p) 0xFFFE ∧
    getFlag (pushedByInterrupt s.p) .B = false ∧ getFlag (pushedByInterrupt s.p) .U = true ∧
    KeepsFlagsBut s.p (pushedByInterrupt s.p) [.B, .U]

/-- With IRQ, NMI and RESET all pending exactly RESET fires: only PC changes before the fetch, and NMI and IRQ stay pending (R278, R283, R45) -/
def Obligations.InterruptPriority : Prop :=
  ∀ s : State,
    (s.resetLine = true →
      atFetch s = { s with
        pc := vectorWord s resetVector, resetLine := false, accesses := [.read 0xFFFC, .read 0xFFFD]
        status := (beginStep s).status, cycles := 7, outcome := .success }) ∧
    (s.resetLine = true → s.nmi = true → s.irq = true → ∀ t, step s = .next t →
      t.resetLine = false ∧ t.nmi = true ∧ t.irq = true ∧ (atFetch t).pc = vectorWord t nmiVector ∧
      (atFetch t).mem.read (stackSlot t.sp) = hi t.pc ∧ (atFetch t).mem.read (stackSlot (t.sp - 1)) = lo t.pc ∧
      ∀ u, step t = .next u → u.nmi = false ∧ u.irq = true ∧ (u.flag .I = true → atFetch u = beginStep u)) ∧
    (s.resetLine = false → s.nmi = true → s.irq = true →
      (atFetch s).nmi = false ∧ (atFetch s).irq = true ∧ (atFetch s).flag .I = true ∧
      (atFetch s).pc = vectorWord s nmiVector)

/-- RTI right after an IRQ or NMI entry restores PC, P and SP; memory differs only in the three stack slots (60_exceptions R287, R288, 48_system R252) -/
def Obligations.RtiUndoesInterruptEntry : Prop :=
  ∀ (s : State) (vector : Word), vector = nmiVector ∨ vector = irqVector → statusHardwired s.p = true →
    ∃ t, exec .rti (interruptSequence vector s) = .next t ∧
      t = { s with mem := t.mem, accesses := t.accesses, status := t.status } ∧
      (∀ b : Word, b ≠ stackSlot s.sp → b ≠ stackSlot (s.sp - 1) → b ≠ stackSlot (s.sp - 2) →
        t.mem.read b = s.mem.read b)

/-- CLI and SEI take effect at the very next step's interrupt check: an IRQ pending after CLI is taken, one pending after SEI is not (70_reset_and_hazards R326, 48_system R256, R257, 60_exceptions R277, R283) -/
def Obligations.MaskChangesHaveNoLatency : Prop :=
  ∀ s : State,
    (s.resetLine = false → s.nmi = false → s.irq = true → s.flag .I = true → s.mem.read s.pc = 0x58 →
      ∃ t, step s = .next t ∧ t.pc = s.pc + 1 ∧ t.irq = true ∧ t.flag .I = false ∧
        (atFetch t).irq = false ∧ (atFetch t).pc = vectorWord s irqVector ∧
        (atFetch t).mem.read (stackSlot s.sp) = hi (s.pc + 1) ∧
        (atFetch t).mem.read (stackSlot (s.sp - 1)) = lo (s.pc + 1)) ∧
    (NoInterrupt s → s.mem.read s.pc = 0x78 →
      ∃ t, step s = .next t ∧ t.pc = s.pc + 1 ∧ t.irq = s.irq ∧ t.flag .I = true ∧ atFetch t = beginStep t ∧
        atFetch (setInterruptLine .irq true t) = beginStep (setInterruptLine .irq true t)) ∧
    (s.resetLine = true → s.nmi = false → s.irq = true → s.flag .I = false →
      s.mem.read (vectorWord s resetVector) = 0x78 →
      ∃ t, step s = .next t ∧ t.pc = vectorWord s resetVector + 1 ∧ t.resetLine = false ∧ t.irq = true ∧
        t.flag .I = true ∧ atFetch t = beginStep t)

/-- A step's cycles are the interrupt's 0 or 7, plus the opcode's entry of the table its page crossing selects, plus 1 if taken (R106, R284) -/
def Obligations.CyclesAreCharged : Prop :=
  ∀ s t : State, step s = .next t →
    t.cycles = (if NoInterrupt s then 0 else 7) +
      (if t.status.pageCrossed then cycCross (fetched s) else cycBase (fetched s)) + bit t.status.branchTaken

/-- Strict BRK mode changes only the outcome of a step that executed BRK, to BreakExecuted(0x00); BRK is executed in full (R105) -/
def Obligations.StrictModeOnlyReportsBrk : Prop :=
  ∀ s : State,
    (∀ t, step { s with brkStrict := false } = .next t →
      t.outcome = .success ∧
      step { s with brkStrict := true } =
        .next { t with brkStrict := true, outcome := if fetched s = 0x00 then .breakExecuted 0x00 else .success }) ∧
    (∀ t, step { s with brkStrict := true } = .next t → ∃ u, step { s with brkStrict := false } = .next u) ∧
    (∀ t, s.brkStrict = true → fetched s = 0x00 → step s = .next t →
      ∃ u, exec .brk (advance (fillRecord 0x00 ((atFetch s).log (.read (atFetch s).pc)))) = .next u ∧
        t = { u with cycles := u.cycles + 7, outcome := .breakExecuted 0x00 })

/-- With TRACE on a step overwrites the record with the address, opcode, operand bytes, mnemonic, operand text and snapshot (40_engine R102, 60_exceptions R300, R302, 10_state R41) -/
def Obligations.TraceRecordOfAStep : Prop :=
  (∀ (s t : State) (e : RomEntry), s.trace = true → rom (fetched s) = some e → step s = .next t →
    let c := atFetch s
    t.record = some {
      address := c.pc, opcode := fetched s
      rawBytes := rawBytesText e.mode.operandWidth (c.mem.read (c.pc + 1)) (c.mem.read (c.pc + 2))
      mnemonic := mnemonicText e.mnemonic
      operandText := operandText e.mode c.pc (c.mem.read (c.pc + 1)) (c.mem.read (c.pc + 2))
      snapshot := formatRegisters c }) ∧
  (∀ s t : State, s.trace = false → step s = .next t → t.record = none) ∧
  (∀ s : State, (formatRegisters s).length = 33)

/-- TRACE and the trace record have no effect on a step but on themselves and on what the filling reads through the port (10_state R41, 40_engine R102) -/
def Obligations.TraceDoesNotInterfere : Prop :=
  ∀ s t : State, SameButTrace s t → ResultSameButTrace (step s) (step t)

/-- run(), bounded by a number of steps as the model has it (log entry 17), ends only with an outcome that is not Success, and a longer bound changes nothing then (40_engine R110, R111) -/
def Obligations.RunEndsAtTheFirstFailure : Prop :=
  (∀ (n m : Nat) (s left : State) (o : StepOutcome), run n s = .ended o left → o ≠ .success ∧ run (n + m) s = .ended o left) ∧
  (∀ (n : Nat) (s t : State), step s = .next t → t.outcome = .success → run (n + 1) s = run n t) ∧
  (∀ (n : Nat) (s t : State) (op : Byte), step s = .next t → t.outcome = .breakExecuted op →
    run (n + 1) s = .ended (.breakExecuted op) t) ∧
  (∀ (n : Nat) (s left : State) (op : Byte), step s = .fault (.unimplementedOpcode op left) →
    run (n + 1) s = .ended (.unimplementedOpcode op) left)

/-- The host sets and reads each line and each configuration input and touches nothing else, but that toggling TRACE off drops the record (log entry 14) (60_exceptions R276, 10_state R20, R38, R39, R41) -/
def Obligations.HostReachesLinesAndInputs : Prop :=
  ∀ (w v : InterruptLine) (b : Bool) (s : State),
    getInterruptLine w (setInterruptLine w b s) = b ∧
    (v ≠ w → getInterruptLine v (setInterruptLine w b s) = getInterruptLine v s) ∧
    setInterruptLine w b s =
      { s with
        irq := getInterruptLine .irq (setInterruptLine w b s), nmi := getInterruptLine .nmi (setInterruptLine w b s)
        resetLine := getInterruptLine .reset (setInterruptLine w b s) } ∧
    setBrkStrict b s = { s with brkStrict := b } ∧ enableTrace s = { s with trace := true } ∧
    (toggleTrace s).1 = !s.trace ∧ (toggleTrace s).2.trace = !s.trace ∧
    (toggleTrace s).2 = { s with trace := !s.trace, record := if s.trace then none else s.record } ∧
    disableDecimalMode s = { s with decimalEnabled := false }

/-- Push writes at 0x0100 | SP then decrements SP modulo 256; Pull increments then reads; Pull16 returns what Push16 pushed (R57, R58, R59) -/
def Obligations.StackPushAndPull : Prop :=
  ∀ (s : State) (v : Byte) (w : Word),
    (stackSlot s.sp).toNat = 256 + s.sp.toNat ∧
    StoresAt s (push v s) (stackSlot s.sp) v ∧ (push v s).sp.toNat = (s.sp.toNat + 255) % 256 ∧
    (push v s).accesses = s.accesses ++ [.write (stackSlot s.sp) v] ∧
    push v s = { s with sp := (push v s).sp, mem := (push v s).mem, accesses := (push v s).accesses } ∧
    (pull s).2.sp.toNat = (s.sp.toNat + 1) % 256 ∧ (pull s).1 = s.mem.read (stackSlot (pull s).2.sp) ∧
    (pull s).2.accesses = s.accesses ++ [.read (stackSlot (pull s).2.sp)] ∧
    (pull s).2 = { s with sp := (pull s).2.sp, accesses := (pull s).2.accesses } ∧
    push16 w s = push (lo w) (push (hi w) s) ∧
    (pull16 s).1 = mkWord (pull (pull s).2).1 (pull s).1 ∧ (pull16 s).2 = (pull (pull s).2).2 ∧
    (pull16 (push16 w s)).1 = w ∧ (pull16 (push16 w s)).2.sp = s.sp

/-- A word read takes its low byte from the address and its high byte from the next, modulo 65536, or within page zero (R55, R56) -/
def Obligations.WordReadsAreLittleEndian : Prop :=
  ∀ (s : State) (a : Word) (z : Byte),
    (memRead16 a s).1.toNat = 256 * (s.mem.read (BitVec.ofNat 16 (a.toNat + 1))).toNat + (s.mem.read a).toNat ∧
    (memRead16 a s).2 = { s with accesses := s.accesses ++ [.read a, .read (a + 1)] } ∧
    (memRead16Zp z s).1.toNat =
      256 * (s.mem.read (BitVec.ofNat 16 ((z.toNat + 1) % 256))).toNat + (s.mem.read (BitVec.ofNat 16 z.toNat)).toNat ∧
    (memRead16Zp z s).2 = { s with accesses := s.accesses ++ [.read (zeroPage z), .read (zeroPage (z + 1))] }

/-- A byte stored at the address of the next instruction is the opcode the very next step fetches (20_memory R69, R66, 70_reset_and_hazards R325) -/
def Obligations.StoreIsSeenByTheNextFetch : Prop :=
  ∀ s t : State, s.resetLine = false → s.nmi = false → s.irq = false →
    decode (fetchBytes s) = .ok (.staAbs (s.pc + 3)) [] → step s = .next t →
    fetched t = s.a ∧ t.pc = s.pc + 3 ∧ ∀ b : Word, b ≠ s.pc + 3 → t.mem.read b = s.mem.read b

/-- IMM, ZP, ZPX, ZPY and ABS: effective address, operand reads, PC advance, and never a page crossing (R123, R124, R125, R126, R127) -/
def Obligations.UnindexedAndZeroPageModes : Prop :=
  ∀ (s : State) (z h l : Byte),
    Resolves (addrImm s) s s.pc.toNat false 1 [] ∧
    Resolves (addrZp z s) s z.toNat false 1 [.read s.pc] ∧
    Resolves (addrZpx z s) s ((z.toNat + s.x.toNat) % 256) false 1 [.read s.pc] ∧
    Resolves (addrZpy z s) s ((z.toNat + s.y.toNat) % 256) false 1 [.read s.pc] ∧
    Resolves (addrAbs (mkWord h l) s) s (256 * h.toNat + l.toNat) false 2 [.read s.pc, .read (s.pc + 1)]

/-- ABX and ABY add the unsigned index modulo 65536 and report a crossing when the high byte differs from the base's (R128, R129) -/
def Obligations.AbsoluteIndexedModes : Prop :=
  ∀ (s : State) (base : Word),
    Resolves (addrAbx base s) s ((base.toNat + s.x.toNat) % 65536)
      (decide ((base.toNat + s.x.toNat) % 65536 / 256 ≠ base.toNat / 256)) 2 [.read s.pc, .read (s.pc + 1)] ∧
    Resolves (addrAby base s) s ((base.toNat + s.y.toNat) % 65536)
      (decide ((base.toNat + s.y.toNat) % 65536 / 256 ≠ base.toNat / 256)) 2 [.read s.pc, .read (s.pc + 1)]

/-- IND reads the target's high byte from the pointer's own page; IZX and IZY read both pointer bytes from page zero (R130, R131, R132) -/
def Obligations.IndirectModes : Prop :=
  ∀ (s : State) (ptr : Word) (z : Byte),
    (let ptr2 : Word := BitVec.ofNat 16 (ptr.toNat / 256 * 256 + (ptr.toNat + 1) % 256)
    Resolves (addrInd ptr s) s (256 * (s.mem.read ptr2).toNat + (s.mem.read ptr).toNat) false 2
      [.read s.pc, .read (s.pc + 1), .read ptr, .read ptr2]) ∧
    (let p1 : Word := BitVec.ofNat 16 ((z.toNat + s.x.toNat) % 256)
    let p2 : Word := BitVec.ofNat 16 ((z.toNat + s.x.toNat + 1) % 256)
    Resolves (addrIzx z s) s (256 * (s.mem.read p2).toNat + (s.mem.read p1).toNat) false 1
      [.read s.pc, .read p1, .read p2]) ∧
    (let p1 : Word := BitVec.ofNat 16 z.toNat
    let p2 : Word := BitVec.ofNat 16 ((z.toNat + 1) % 256)
    let base := 256 * (s.mem.read p2).toNat + (s.mem.read p1).toNat
    Resolves (addrIzy z s) s ((base + s.y.toNat) % 65536)
      (decide ((base + s.y.toNat) % 65536 / 256 ≠ base / 256)) 1 [.read s.pc, .read p1, .read p2])

/-- REL adds the signed offset to the next instruction's address modulo 65536; pages are the same when the high bytes are equal (R133, R134) -/
def Obligations.RelativeModeAndSamePage : Prop :=
  (∀ (s : State) (off : Byte),
    let next := (s.pc.toNat + 1) % 65536
    let target := (((s.pc.toNat : Int) + 1 + off.toInt) % 65536).toNat
    Resolves (addrRel off s) s target (decide (target / 256 ≠ next / 256)) 1 [.read s.pc]) ∧
  (∀ a b : Word, samePage a b = true ↔ a.toNat / 256 = b.toNat / 256) ∧
  samePage 0x01FF 0x0200 = false ∧ samePage 0x0101 0x01FF = true

/-- A read instruction's operand is the byte at the effective address, read once after the resolver; IMM's is its own operand byte (40_engine R113, 20_memory R62) -/
def Obligations.ReadOperandsComeFromTheEffectiveAddress : Prop :=
  ∀ (s : State) (v z : Byte) (w : Word),
    ((operandImm v s).value = v ∧ (operandImm v s).crossed = false ∧
      (operandImm v s).state = { s with pc := s.pc + 1, accesses := s.accesses ++ [.read s.pc] }) ∧
    IsByteAt (operandZp z s) (addrZp z s) s ∧ IsByteAt (operandZpx z s) (addrZpx z s) s ∧
    IsByteAt (operandZpy z s) (addrZpy z s) s ∧ IsByteAt (operandAbs w s) (addrAbs w s) s ∧
    IsByteAt (operandAbx w s) (addrAbx w s) s ∧ IsByteAt (operandAby w s) (addrAby w s) s ∧
    IsByteAt (operandIzx z s) (addrIzx z s) s ∧ IsByteAt (operandIzy z s) (addrIzy z s) s

/-- setZero, setNegative and SetZN write only Z and N, as the byte says, and commute (R141, R142, R145) -/
def Obligations.FlagFunctionsArePure : Prop :=
  ∀ p v w : Byte,
    SetsFlag p (setZero p v) .Z (v == 0) ∧ SetsFlag p (setNegative p v) .N (v.getLsbD 7) ∧
    SetsZN p (Machine.setZN p v) v ∧
    Machine.setZN p v = (p &&& 0x7D) ||| (if v = 0 then 0x02 else 0x00) ||| (v &&& 0x80) ∧
    setNegative (setZero p v) w = setZero (setNegative p w) v ∧
    ¬(getFlag (Machine.setZN p v) .Z = true ∧ getFlag (Machine.setZN p v) .N = true)

/-- Add8 returns the sum modulo 256, C = 1 iff the sum exceeds 255, V = 1 iff the signed sum leaves -128..127, Z and N of the result (R143, R144, R146) -/
def Obligations.AdderComputesSumCarryAndOverflow : Prop :=
  ∀ (p a b : Byte) (c : Bool),
    AddsTo p (add8Flags p a b c) a b (add8Result a b c) c ∧
    SetsFlag p (setCarryOnAddition p (sum16 a b c)) .C (decide (255 < a.toNat + b.toNat + bit c)) ∧
    SetsFlag p (setOverflowOnAddition p a b (sum16 a b c)) .V
      (decide (a.toInt + b.toInt + bit c < -128 ∨ 127 < a.toInt + b.toInt + bit c))

/-- Compare sets C, Z, N from the unsigned order and the 8-bit difference; shifts and rotates are by one through or out to the carry (R149, R150) -/
def Obligations.CompareAndShiftFunctions : Prop :=
  (∀ p r m : Byte, SetsCompare p (compareFlags p r m) r m) ∧
  (∀ (p v : Byte) (c : Bool),
    (asl v).result.toNat = 2 * v.toNat % 256 ∧ (asl v).carry = v.getLsbD 7 ∧
    (lsr v).result.toNat = v.toNat / 2 ∧ (lsr v).carry = v.getLsbD 0 ∧
    (rol v c).result.toNat = (2 * v.toNat + bit c) % 256 ∧ (rol v c).carry = v.getLsbD 7 ∧
    (ror v c).result.toNat = v.toNat / 2 + 128 * bit c ∧ (ror v c).carry = v.getLsbD 0 ∧
    SetsShift p (shiftFlags p (asl v)) (asl v).result (asl v).carry ∧
    SetsShift p (shiftFlags p (lsr v)) (lsr v).result (lsr v).carry ∧
    SetsShift p (shiftFlags p (rol v c)) (rol v c).result (rol v c).carry ∧
    SetsShift p (shiftFlags p (ror v c)) (ror v c).result (ror v c).carry ∧
    times (fun r : Shifted => rol r.result r.carry) 9 { result := v, carry := c } = { result := v, carry := c } ∧
    times (fun r : Shifted => ror r.result r.carry) 9 { result := v, carry := c } = { result := v, carry := c })

/-- LDA in its eight forms: encoding and cycles, A becomes the operand, Z and N from it, nothing else but PC changes (R160) -/
def Obligations.LdaLoadsA : Prop :=
  ∀ s : State,
  (∀ v, Encoded (.ldaImm v) [0xA9, v] 2 2 ∧ LoadsA (.ldaImm v) s (operandImm v s) 1 (operandImm v s).value) ∧
  (∀ z, Encoded (.ldaZp z) [0xA5, z] 3 3 ∧ LoadsA (.ldaZp z) s (operandZp z s) 1 (operandZp z s).value) ∧
  (∀ z, Encoded (.ldaZpx z) [0xB5, z] 4 4 ∧ LoadsA (.ldaZpx z) s (operandZpx z s) 1 (operandZpx z s).value) ∧
  (∀ w, Encoded (.ldaAbs w) [0xAD, lo w, hi w] 4 4 ∧ LoadsA (.ldaAbs w) s (operandAbs w s) 2 (operandAbs w s).value) ∧
  (∀ w, Encoded (.ldaAbx w) [0xBD, lo w, hi w] 4 5 ∧ LoadsA (.ldaAbx w) s (operandAbx w s) 2 (operandAbx w s).value) ∧
  (∀ w, Encoded (.ldaAby w) [0xB9, lo w, hi w] 4 5 ∧ LoadsA (.ldaAby w) s (operandAby w s) 2 (operandAby w s).value) ∧
  (∀ z, Encoded (.ldaIzx z) [0xA1, z] 6 6 ∧ LoadsA (.ldaIzx z) s (operandIzx z s) 1 (operandIzx z s).value) ∧
  (∀ z, Encoded (.ldaIzy z) [0xB1, z] 5 6 ∧ LoadsA (.ldaIzy z) s (operandIzy z s) 1 (operandIzy z s).value)

/-- LDX and LDY in their five forms each: encoding and cycles, the register becomes the operand, Z and N from it (R161, R162) -/
def Obligations.LdxAndLdyLoad : Prop :=
  ∀ s : State,
  (∀ v, Encoded (.ldxImm v) [0xA2, v] 2 2 ∧ LoadsX (.ldxImm v) s (operandImm v s) 1 (operandImm v s).value) ∧
  (∀ z, Encoded (.ldxZp z) [0xA6, z] 3 3 ∧ LoadsX (.ldxZp z) s (operandZp z s) 1 (operandZp z s).value) ∧
  (∀ z, Encoded (.ldxZpy z) [0xB6, z] 4 4 ∧ LoadsX (.ldxZpy z) s (operandZpy z s) 1 (operandZpy z s).value) ∧
  (∀ w, Encoded (.ldxAbs w) [0xAE, lo w, hi w] 4 4 ∧ LoadsX (.ldxAbs w) s (operandAbs w s) 2 (operandAbs w s).value) ∧
  (∀ w, Encoded (.ldxAby w) [0xBE, lo w, hi w] 4 5 ∧ LoadsX (.ldxAby w) s (operandAby w s) 2 (operandAby w s).value) ∧
  (∀ v, Encoded (.ldyImm v) [0xA0, v] 2 2 ∧ LoadsY (.ldyImm v) s (operandImm v s) 1 (operandImm v s).value) ∧
  (∀ z, Encoded (.ldyZp z) [0xA4, z] 3 3 ∧ LoadsY (.ldyZp z) s (operandZp z s) 1 (operandZp z s).value) ∧
  (∀ z, Encoded (.ldyZpx z) [0xB4, z] 4 4 ∧ LoadsY (.ldyZpx z) s (operandZpx z s) 1 (operandZpx z s).value) ∧
  (∀ w, Encoded (.ldyAbs w) [0xAC, lo w, hi w] 4 4 ∧ LoadsY (.ldyAbs w) s (operandAbs w s) 2 (operandAbs w s).value) ∧
  (∀ w, Encoded (.ldyAbx w) [0xBC, lo w, hi w] 4 5 ∧ LoadsY (.ldyAbx w) s (operandAbx w s) 2 (operandAbx w s).value)

/-- STA, STX and STY in all forms: one write of the register at the effective address, no read of it, no flag (R163, R164, R165) -/
def Obligations.StoresWriteTheirRegister : Prop :=
  ∀ s : State,
  (∀ z, Encoded (.staZp z) [0x85, z] 3 3 ∧ StoresByte (.staZp z) s (addrZp z s) 1 s.a) ∧
  (∀ z, Encoded (.staZpx z) [0x95, z] 4 4 ∧ StoresByte (.staZpx z) s (addrZpx z s) 1 s.a) ∧
  (∀ w, Encoded (.staAbs w) [0x8D, lo w, hi w] 4 4 ∧ StoresByte (.staAbs w) s (addrAbs w s) 2 s.a) ∧
  (∀ w, Encoded (.staAbx w) [0x9D, lo w, hi w] 5 5 ∧ StoresByte (.staAbx w) s (addrAbx w s) 2 s.a) ∧
  (∀ w, Encoded (.staAby w) [0x99, lo w, hi w] 5 5 ∧ StoresByte (.staAby w) s (addrAby w s) 2 s.a) ∧
  (∀ z, Encoded (.staIzx z) [0x81, z] 6 6 ∧ StoresByte (.staIzx z) s (addrIzx z s) 1 s.a) ∧
  (∀ z, Encoded (.staIzy z) [0x91, z] 6 6 ∧ StoresByte (.staIzy z) s (addrIzy z s) 1 s.a) ∧
  (∀ z, Encoded (.stxZp z) [0x86, z] 3 3 ∧ StoresByte (.stxZp z) s (addrZp z s) 1 s.x) ∧
  (∀ z, Encoded (.stxZpy z) [0x96, z] 4 4 ∧ StoresByte (.stxZpy z) s (addrZpy z s) 1 s.x) ∧
  (∀ w, Encoded (.stxAbs w) [0x8E, lo w, hi w] 4 4 ∧ StoresByte (.stxAbs w) s (addrAbs w s) 2 s.x) ∧
  (∀ z, Encoded (.styZp z) [0x84, z] 3 3 ∧ StoresByte (.styZp z) s (addrZp z s) 1 s.y) ∧
  (∀ z, Encoded (.styZpx z) [0x94, z] 4 4 ∧ StoresByte (.styZpx z) s (addrZpx z s) 1 s.y) ∧
  (∀ w, Encoded (.styAbs w) [0x8C, lo w, hi w] 4 4 ∧ StoresByte (.styAbs w) s (addrAbs w s) 2 s.y)

/-- TAX, TAY, TXA, TYA, TSX copy a register and set Z and N from it; TXS copies X to SP and writes no flag (R170, R171, R172, R173, R174, R175) -/
def Obligations.TransfersCopyRegisters : Prop :=
  ∀ s : State,
  (Encoded .tax [0xAA] 2 2 ∧ ImpliedX .tax s s.a) ∧
  (Encoded .tay [0xA8] 2 2 ∧ ImpliedY .tay s s.a) ∧
  (Encoded .txa [0x8A] 2 2 ∧ ImpliedA .txa s s.x) ∧
  (Encoded .tya [0x98] 2 2 ∧ ImpliedA .tya s s.y) ∧
  (Encoded .tsx [0xBA] 2 2 ∧ ImpliedX .tsx s s.sp) ∧
  (Encoded .txs [0x9A] 2 2 ∧ Implied .txs s fun t => t = { s with sp := s.x, status := t.status })

/-- PHA pushes A and PHP pushes P with B and U set; SP goes down by one modulo 256 and no flag changes (R180, R181) -/
def Obligations.PhaAndPhpPush : Prop :=
  ∀ s : State,
  (Encoded .pha [0x48] 3 3 ∧ ∃ t, exec .pha s = .next t ∧ StoresAt s t (stackSlot s.sp) s.a ∧ t.sp = s.sp - 1 ∧
    t.accesses = s.accesses ++ [.write (stackSlot s.sp) s.a] ∧ t.status = { pageCrossed := false, branchTaken := false } ∧
    t = { s with sp := t.sp, mem := t.mem, accesses := t.accesses, status := t.status }) ∧
  (Encoded .php [0x08] 3 3 ∧ ∃ t, exec .php s = .next t ∧ StoresAt s t (stackSlot s.sp) (s.p ||| 0x30) ∧ t.sp = s.sp - 1 ∧
    t.accesses = s.accesses ++ [.write (stackSlot s.sp) (s.p ||| 0x30)] ∧ t.status = { pageCrossed := false, branchTaken := false } ∧
    t = { s with sp := t.sp, mem := t.mem, accesses := t.accesses, status := t.status })

/-- PLA pulls a byte into A with Z and N from it; PLP pulls P but B becomes 0 and U becomes 1 whatever was pulled (R182, R185) -/
def Obligations.PlaAndPlpPull : Prop :=
  ∀ s : State,
  (Encoded .pla [0x68] 4 4 ∧ ∃ t, exec .pla s = .next t ∧ t.sp = s.sp + 1 ∧ t.a = s.mem.read (stackSlot (s.sp + 1)) ∧ SetsZN s.p t.p t.a ∧
    t.accesses = s.accesses ++ [.read (stackSlot (s.sp + 1))] ∧ SameMemory s t ∧
    t.status = { pageCrossed := false, branchTaken := false } ∧
    t = { s with a := t.a, sp := t.sp, p := t.p, accesses := t.accesses, status := t.status }) ∧
  (Encoded .plp [0x28] 4 4 ∧ ∃ t, exec .plp s = .next t ∧ t.sp = s.sp + 1 ∧
    (∀ f : Flag, getFlag t.p f =
      if f = .B then false else if f = .U then true else getFlag (s.mem.read (stackSlot (s.sp + 1))) f) ∧
    t.accesses = s.accesses ++ [.read (stackSlot (s.sp + 1))] ∧ SameMemory s t ∧
    t.status = { pageCrossed := false, branchTaken := false } ∧
    t = { s with sp := t.sp, p := t.p, accesses := t.accesses, status := t.status })

/-- ADC in its eight forms: A + M + C modulo 256 with C, V, Z, N; refused with P.D = 1 while DECIMAL_ENABLED (R190) -/
def Obligations.AdcAddsWithCarry : Prop :=
  ∀ s : State,
  (∀ v, Encoded (.adcImm v) [0x69, v] 2 2 ∧ AddsOrRefuses (.adcImm v) s (operandImm v s) 1 fun q r => AddsTo s.p q s.a (operandImm v s).value r (s.flag .C)) ∧
  (∀ z, Encoded (.adcZp z) [0x65, z] 3 3 ∧ AddsOrRefuses (.adcZp z) s (operandZp z s) 1 fun q r => AddsTo s.p q s.a (operandZp z s).value r (s.flag .C)) ∧
  (∀ z, Encoded (.adcZpx z) [0x75, z] 4 4 ∧ AddsOrRefuses (.adcZpx z) s (operandZpx z s) 1 fun q r => AddsTo s.p q s.a (operandZpx z s).value r (s.flag .C)) ∧
  (∀ w, Encoded (.adcAbs w) [0x6D, lo w, hi w] 4 4 ∧ AddsOrRefuses (.adcAbs w) s (operandAbs w s) 2 fun q r => AddsTo s.p q s.a (operandAbs w s).value r (s.flag .C)) ∧
  (∀ w, Encoded (.adcAbx w) [0x7D, lo w, hi w] 4 5 ∧ AddsOrRefuses (.adcAbx w) s (operandAbx w s) 2 fun q r => AddsTo s.p q s.a (operandAbx w s).value r (s.flag .C)) ∧
  (∀ w, Encoded (.adcAby w) [0x79, lo w, hi w] 4 5 ∧ AddsOrRefuses (.adcAby w) s (operandAby w s) 2 fun q r => AddsTo s.p q s.a (operandAby w s).value r (s.flag .C)) ∧
  (∀ z, Encoded (.adcIzx z) [0x61, z] 6 6 ∧ AddsOrRefuses (.adcIzx z) s (operandIzx z s) 1 fun q r => AddsTo s.p q s.a (operandIzx z s).value r (s.flag .C)) ∧
  (∀ z, Encoded (.adcIzy z) [0x71, z] 5 6 ∧ AddsOrRefuses (.adcIzy z) s (operandIzy z s) 1 fun q r => AddsTo s.p q s.a (operandIzy z s).value r (s.flag .C))

/-- SBC in its eight forms: A - M - (1 - C) modulo 256 with C as no borrow, V, Z, N; refused in decimal mode (R192) -/
def Obligations.SbcSubtractsWithBorrow : Prop :=
  ∀ s : State,
  (∀ v, Encoded (.sbcImm v) [0xE9, v] 2 2 ∧ AddsOrRefuses (.sbcImm v) s (operandImm v s) 1 fun q r => SubtractsTo s.p q s.a (operandImm v s).value r (s.flag .C)) ∧
  (∀ z, Encoded (.sbcZp z) [0xE5, z] 3 3 ∧ AddsOrRefuses (.sbcZp z) s (operandZp z s) 1 fun q r => SubtractsTo s.p q s.a (operandZp z s).value r (s.flag .C)) ∧
  (∀ z, Encoded (.sbcZpx z) [0xF5, z] 4 4 ∧ AddsOrRefuses (.sbcZpx z) s (operandZpx z s) 1 fun q r => SubtractsTo s.p q s.a (operandZpx z s).value r (s.flag .C)) ∧
  (∀ w, Encoded (.sbcAbs w) [0xED, lo w, hi w] 4 4 ∧ AddsOrRefuses (.sbcAbs w) s (operandAbs w s) 2 fun q r => SubtractsTo s.p q s.a (operandAbs w s).value r (s.flag .C)) ∧
  (∀ w, Encoded (.sbcAbx w) [0xFD, lo w, hi w] 4 5 ∧ AddsOrRefuses (.sbcAbx w) s (operandAbx w s) 2 fun q r => SubtractsTo s.p q s.a (operandAbx w s).value r (s.flag .C)) ∧
  (∀ w, Encoded (.sbcAby w) [0xF9, lo w, hi w] 4 5 ∧ AddsOrRefuses (.sbcAby w) s (operandAby w s) 2 fun q r => SubtractsTo s.p q s.a (operandAby w s).value r (s.flag .C)) ∧
  (∀ z, Encoded (.sbcIzx z) [0xE1, z] 6 6 ∧ AddsOrRefuses (.sbcIzx z) s (operandIzx z s) 1 fun q r => SubtractsTo s.p q s.a (operandIzx z s).value r (s.flag .C)) ∧
  (∀ z, Encoded (.sbcIzy z) [0xF1, z] 5 6 ∧ AddsOrRefuses (.sbcIzy z) s (operandIzy z s) 1 fun q r => SubtractsTo s.p q s.a (operandIzy z s).value r (s.flag .C))

/-- CMP, CPX, CPY in all forms set C, Z and N from the comparison and change nothing else but PC (R193, R194, R195) -/
def Obligations.ComparesSetCarryZeroNegative : Prop :=
  ∀ s : State,
  (∀ v, Encoded (.cmpImm v) [0xC9, v] 2 2 ∧ TestsFlags (.cmpImm v) s (operandImm v s) 1 fun q => SetsCompare s.p q s.a (operandImm v s).value) ∧
  (∀ z, Encoded (.cmpZp z) [0xC5, z] 3 3 ∧ TestsFlags (.cmpZp z) s (operandZp z s) 1 fun q => SetsCompare s.p q s.a (operandZp z s).value) ∧
  (∀ z, Encoded (.cmpZpx z) [0xD5, z] 4 4 ∧ TestsFlags (.cmpZpx z) s (operandZpx z s) 1 fun q => SetsCompare s.p q s.a (operandZpx z s).value) ∧
  (∀ w, Encoded (.cmpAbs w) [0xCD, lo w, hi w] 4 4 ∧ TestsFlags (.cmpAbs w) s (operandAbs w s) 2 fun q => SetsCompare s.p q s.a (operandAbs w s).value) ∧
  (∀ w, Encoded (.cmpAbx w) [0xDD, lo w, hi w] 4 5 ∧ TestsFlags (.cmpAbx w) s (operandAbx w s) 2 fun q => SetsCompare s.p q s.a (operandAbx w s).value) ∧
  (∀ w, Encoded (.cmpAby w) [0xD9, lo w, hi w] 4 5 ∧ TestsFlags (.cmpAby w) s (operandAby w s) 2 fun q => SetsCompare s.p q s.a (operandAby w s).value) ∧
  (∀ z, Encoded (.cmpIzx z) [0xC1, z] 6 6 ∧ TestsFlags (.cmpIzx z) s (operandIzx z s) 1 fun q => SetsCompare s.p q s.a (operandIzx z s).value) ∧
  (∀ z, Encoded (.cmpIzy z) [0xD1, z] 5 6 ∧ TestsFlags (.cmpIzy z) s (operandIzy z s) 1 fun q => SetsCompare s.p q s.a (operandIzy z s).value) ∧
  (∀ v, Encoded (.cpxImm v) [0xE0, v] 2 2 ∧ TestsFlags (.cpxImm v) s (operandImm v s) 1 fun q => SetsCompare s.p q s.x (operandImm v s).value) ∧
  (∀ z, Encoded (.cpxZp z) [0xE4, z] 3 3 ∧ TestsFlags (.cpxZp z) s (operandZp z s) 1 fun q => SetsCompare s.p q s.x (operandZp z s).value) ∧
  (∀ w, Encoded (.cpxAbs w) [0xEC, lo w, hi w] 4 4 ∧ TestsFlags (.cpxAbs w) s (operandAbs w s) 2 fun q => SetsCompare s.p q s.x (operandAbs w s).value) ∧
  (∀ v, Encoded (.cpyImm v) [0xC0, v] 2 2 ∧ TestsFlags (.cpyImm v) s (operandImm v s) 1 fun q => SetsCompare s.p q s.y (operandImm v s).value) ∧
  (∀ z, Encoded (.cpyZp z) [0xC4, z] 3 3 ∧ TestsFlags (.cpyZp z) s (operandZp z s) 1 fun q => SetsCompare s.p q s.y (operandZp z s).value) ∧
  (∀ w, Encoded (.cpyAbs w) [0xCC, lo w, hi w] 4 4 ∧ TestsFlags (.cpyAbs w) s (operandAbs w s) 2 fun q => SetsCompare s.p q s.y (operandAbs w s).value)

/-- INC and DEC in their four forms each: one read and one write of the byte plus or minus one modulo 256, Z and N (R196, R199) -/
def Obligations.IncAndDecStepMemory : Prop :=
  ∀ s : State,
  (∀ z, Encoded (.incZp z) [0xE6, z] 5 5 ∧ Modifies (.incZp z) s (addrZp z s) 1 (BitVec.ofNat 8 ((s.mem.read (addrZp z s).ea).toNat + 1))
    (fun q => SetsZN s.p q (BitVec.ofNat 8 ((s.mem.read (addrZp z s).ea).toNat + 1)))) ∧
  (∀ z, Encoded (.incZpx z) [0xF6, z] 6 6 ∧ Modifies (.incZpx z) s (addrZpx z s) 1 (BitVec.ofNat 8 ((s.mem.read (addrZpx z s).ea).toNat + 1))
    (fun q => SetsZN s.p q (BitVec.ofNat 8 ((s.mem.read (addrZpx z s).ea).toNat + 1)))) ∧
  (∀ w, Encoded (.incAbs w) [0xEE, lo w, hi w] 6 6 ∧ Modifies (.incAbs w) s (addrAbs w s) 2 (BitVec.ofNat 8 ((s.mem.read (addrAbs w s).ea).toNat + 1))
    (fun q => SetsZN s.p q (BitVec.ofNat 8 ((s.mem.read (addrAbs w s).ea).toNat + 1)))) ∧
  (∀ w, Encoded (.incAbx w) [0xFE, lo w, hi w] 7 7 ∧ Modifies (.incAbx w) s (addrAbx w s) 2 (BitVec.ofNat 8 ((s.mem.read (addrAbx w s).ea).toNat + 1))
    (fun q => SetsZN s.p q (BitVec.ofNat 8 ((s.mem.read (addrAbx w s).ea).toNat + 1)))) ∧
  (∀ z, Encoded (.decZp z) [0xC6, z] 5 5 ∧ Modifies (.decZp z) s (addrZp z s) 1 (BitVec.ofNat 8 ((s.mem.read (addrZp z s).ea).toNat + 255))
    (fun q => SetsZN s.p q (BitVec.ofNat 8 ((s.mem.read (addrZp z s).ea).toNat + 255)))) ∧
  (∀ z, Encoded (.decZpx z) [0xD6, z] 6 6 ∧ Modifies (.decZpx z) s (addrZpx z s) 1 (BitVec.ofNat 8 ((s.mem.read (addrZpx z s).ea).toNat + 255))
    (fun q => SetsZN s.p q (BitVec.ofNat 8 ((s.mem.read (addrZpx z s).ea).toNat + 255)))) ∧
  (∀ w, Encoded (.decAbs w) [0xCE, lo w, hi w] 6 6 ∧ Modifies (.decAbs w) s (addrAbs w s) 2 (BitVec.ofNat 8 ((s.mem.read (addrAbs w s).ea).toNat + 255))
    (fun q => SetsZN s.p q (BitVec.ofNat 8 ((s.mem.read (addrAbs w s).ea).toNat + 255)))) ∧
  (∀ w, Encoded (.decAbx w) [0xDE, lo w, hi w] 7 7 ∧ Modifies (.decAbx w) s (addrAbx w s) 2 (BitVec.ofNat 8 ((s.mem.read (addrAbx w s).ea).toNat + 255))
    (fun q => SetsZN s.p q (BitVec.ofNat 8 ((s.mem.read (addrAbx w s).ea).toNat + 255))))

/-- INX, INY, DEX, DEY add or subtract one modulo 256 and set Z and N from the result; C and V are not written (R197, R198, R200, R201) -/
def Obligations.IndexRegistersStep : Prop :=
  ∀ s : State,
  (Encoded .inx [0xE8] 2 2 ∧ ImpliedX .inx s (BitVec.ofNat 8 (s.x.toNat + 1))) ∧
  (Encoded .iny [0xC8] 2 2 ∧ ImpliedY .iny s (BitVec.ofNat 8 (s.y.toNat + 1))) ∧
  (Encoded .dex [0xCA] 2 2 ∧ ImpliedX .dex s (BitVec.ofNat 8 (s.x.toNat + 255))) ∧
  (Encoded .dey [0x88] 2 2 ∧ ImpliedY .dey s (BitVec.ofNat 8 (s.y.toNat + 255)))

/-- AND, ORA and EOR in their eight forms each: the bitwise result in A, Z and N from it, nothing else but PC changes (R210, R211, R212) -/
def Obligations.LogicalInstructions : Prop :=
  ∀ s : State,
  (∀ v, Encoded (.andImm v) [0x29, v] 2 2 ∧ LoadsA (.andImm v) s (operandImm v s) 1 (s.a &&& (operandImm v s).value)) ∧
  (∀ z, Encoded (.andZp z) [0x25, z] 3 3 ∧ LoadsA (.andZp z) s (operandZp z s) 1 (s.a &&& (operandZp z s).value)) ∧
  (∀ z, Encoded (.andZpx z) [0x35, z] 4 4 ∧ LoadsA (.andZpx z) s (operandZpx z s) 1 (s.a &&& (operandZpx z s).value)) ∧
  (∀ w, Encoded (.andAbs w) [0x2D, lo w, hi w] 4 4 ∧ LoadsA (.andAbs w) s (operandAbs w s) 2 (s.a &&& (operandAbs w s).value)) ∧
  (∀ w, Encoded (.andAbx w) [0x3D, lo w, hi w] 4 5 ∧ LoadsA (.andAbx w) s (operandAbx w s) 2 (s.a &&& (operandAbx w s).value)) ∧
  (∀ w, Encoded (.andAby w) [0x39, lo w, hi w] 4 5 ∧ LoadsA (.andAby w) s (operandAby w s) 2 (s.a &&& (operandAby w s).value)) ∧
  (∀ z, Encoded (.andIzx z) [0x21, z] 6 6 ∧ LoadsA (.andIzx z) s (operandIzx z s) 1 (s.a &&& (operandIzx z s).value)) ∧
  (∀ z, Encoded (.andIzy z) [0x31, z] 5 6 ∧ LoadsA (.andIzy z) s (operandIzy z s) 1 (s.a &&& (operandIzy z s).value)) ∧
  (∀ v, Encoded (.oraImm v) [0x09, v] 2 2 ∧ LoadsA (.oraImm v) s (operandImm v s) 1 (s.a ||| (operandImm v s).value)) ∧
  (∀ z, Encoded (.oraZp z) [0x05, z] 3 3 ∧ LoadsA (.oraZp z) s (operandZp z s) 1 (s.a ||| (operandZp z s).value)) ∧
  (∀ z, Encoded (.oraZpx z) [0x15, z] 4 4 ∧ LoadsA (.oraZpx z) s (operandZpx z s) 1 (s.a ||| (operandZpx z s).value)) ∧
  (∀ w, Encoded (.oraAbs w) [0x0D, lo w, hi w] 4 4 ∧ LoadsA (.oraAbs w) s (operandAbs w s) 2 (s.a ||| (operandAbs w s).value)) ∧
  (∀ w, Encoded (.oraAbx w) [0x1D, lo w, hi w] 4 5 ∧ LoadsA (.oraAbx w) s (operandAbx w s) 2 (s.a ||| (operandAbx w s).value)) ∧
  (∀ w, Encoded (.oraAby w) [0x19, lo w, hi w] 4 5 ∧ LoadsA (.oraAby w) s (operandAby w s) 2 (s.a ||| (operandAby w s).value)) ∧
  (∀ z, Encoded (.oraIzx z) [0x01, z] 6 6 ∧ LoadsA (.oraIzx z) s (operandIzx z s) 1 (s.a ||| (operandIzx z s).value)) ∧
  (∀ z, Encoded (.oraIzy z) [0x11, z] 5 6 ∧ LoadsA (.oraIzy z) s (operandIzy z s) 1 (s.a ||| (operandIzy z s).value)) ∧
  (∀ v, Encoded (.eorImm v) [0x49, v] 2 2 ∧ LoadsA (.eorImm v) s (operandImm v s) 1 (s.a ^^^ (operandImm v s).value)) ∧
  (∀ z, Encoded (.eorZp z) [0x45, z] 3 3 ∧ LoadsA (.eorZp z) s (operandZp z s) 1 (s.a ^^^ (operandZp z s).value)) ∧
  (∀ z, Encoded (.eorZpx z) [0x55, z] 4 4 ∧ LoadsA (.eorZpx z) s (operandZpx z s) 1 (s.a ^^^ (operandZpx z s).value)) ∧
  (∀ w, Encoded (.eorAbs w) [0x4D, lo w, hi w] 4 4 ∧ LoadsA (.eorAbs w) s (operandAbs w s) 2 (s.a ^^^ (operandAbs w s).value)) ∧
  (∀ w, Encoded (.eorAbx w) [0x5D, lo w, hi w] 4 5 ∧ LoadsA (.eorAbx w) s (operandAbx w s) 2 (s.a ^^^ (operandAbx w s).value)) ∧
  (∀ w, Encoded (.eorAby w) [0x59, lo w, hi w] 4 5 ∧ LoadsA (.eorAby w) s (operandAby w s) 2 (s.a ^^^ (operandAby w s).value)) ∧
  (∀ z, Encoded (.eorIzx z) [0x41, z] 6 6 ∧ LoadsA (.eorIzx z) s (operandIzx z s) 1 (s.a ^^^ (operandIzx z s).value)) ∧
  (∀ z, Encoded (.eorIzy z) [0x51, z] 5 6 ∧ LoadsA (.eorIzy z) s (operandIzy z s) 1 (s.a ^^^ (operandIzy z s).value))

/-- BIT sets Z from A & M and copies bits 7 and 6 of M to N and V, changing nothing else but PC (R213) -/
def Obligations.BitTestsMemory : Prop :=
  ∀ s : State,
  (∀ z, Encoded (.bitZp z) [0x24, z] 3 3 ∧ TestsFlags (.bitZp z) s (operandZp z s) 1 fun q =>
    getFlag q .Z = ((s.a &&& (operandZp z s).value) == 0) ∧ getFlag q .N = (operandZp z s).value.getLsbD 7 ∧
    getFlag q .V = (operandZp z s).value.getLsbD 6 ∧ KeepsFlagsBut s.p q [.Z, .N, .V]) ∧
  (∀ w, Encoded (.bitAbs w) [0x2C, lo w, hi w] 4 4 ∧ TestsFlags (.bitAbs w) s (operandAbs w s) 2 fun q =>
    getFlag q .Z = ((s.a &&& (operandAbs w s).value) == 0) ∧ getFlag q .N = (operandAbs w s).value.getLsbD 7 ∧
    getFlag q .V = (operandAbs w s).value.getLsbD 6 ∧ KeepsFlagsBut s.p q [.Z, .N, .V])

/-- ASL and LSR in their five forms each: the byte doubled modulo 256 or halved, the bit shifted out in C, Z and N (R214, R215) -/
def Obligations.ShiftsMoveOneBitToCarry : Prop :=
  ∀ s : State,
  (Encoded .aslAcc [0x0A] 2 2 ∧ ShiftsA .aslAcc s (BitVec.ofNat 8 (2 * s.a.toNat)) (s.a.getLsbD 7)) ∧
  (∀ z, Encoded (.aslZp z) [0x06, z] 5 5 ∧ Modifies (.aslZp z) s (addrZp z s) 1 (BitVec.ofNat 8 (2 * (s.mem.read (addrZp z s).ea).toNat))
    (fun q => SetsShift s.p q (BitVec.ofNat 8 (2 * (s.mem.read (addrZp z s).ea).toNat)) ((s.mem.read (addrZp z s).ea).getLsbD 7))) ∧
  (∀ z, Encoded (.aslZpx z) [0x16, z] 6 6 ∧ Modifies (.aslZpx z) s (addrZpx z s) 1 (BitVec.ofNat 8 (2 * (s.mem.read (addrZpx z s).ea).toNat))
    (fun q => SetsShift s.p q (BitVec.ofNat 8 (2 * (s.mem.read (addrZpx z s).ea).toNat)) ((s.mem.read (addrZpx z s).ea).getLsbD 7))) ∧
  (∀ w, Encoded (.aslAbs w) [0x0E, lo w, hi w] 6 6 ∧ Modifies (.aslAbs w) s (addrAbs w s) 2 (BitVec.ofNat 8 (2 * (s.mem.read (addrAbs w s).ea).toNat))
    (fun q => SetsShift s.p q (BitVec.ofNat 8 (2 * (s.mem.read (addrAbs w s).ea).toNat)) ((s.mem.read (addrAbs w s).ea).getLsbD 7))) ∧
  (∀ w, Encoded (.aslAbx w) [0x1E, lo w, hi w] 7 7 ∧ Modifies (.aslAbx w) s (addrAbx w s) 2 (BitVec.ofNat 8 (2 * (s.mem.read (addrAbx w s).ea).toNat))
    (fun q => SetsShift s.p q (BitVec.ofNat 8 (2 * (s.mem.read (addrAbx w s).ea).toNat)) ((s.mem.read (addrAbx w s).ea).getLsbD 7))) ∧
  (Encoded .lsrAcc [0x4A] 2 2 ∧ ShiftsA .lsrAcc s (BitVec.ofNat 8 (s.a.toNat / 2)) (s.a.getLsbD 0)) ∧
  (∀ z, Encoded (.lsrZp z) [0x46, z] 5 5 ∧ Modifies (.lsrZp z) s (addrZp z s) 1 (BitVec.ofNat 8 ((s.mem.read (addrZp z s).ea).toNat / 2))
    (fun q => SetsShift s.p q (BitVec.ofNat 8 ((s.mem.read (addrZp z s).ea).toNat / 2)) ((s.mem.read (addrZp z s).ea).getLsbD 0))) ∧
  (∀ z, Encoded (.lsrZpx z) [0x56, z] 6 6 ∧ Modifies (.lsrZpx z) s (addrZpx z s) 1 (BitVec.ofNat 8 ((s.mem.read (addrZpx z s).ea).toNat / 2))
    (fun q => SetsShift s.p q (BitVec.ofNat 8 ((s.mem.read (addrZpx z s).ea).toNat / 2)) ((s.mem.read (addrZpx z s).ea).getLsbD 0))) ∧
  (∀ w, Encoded (.lsrAbs w) [0x4E, lo w, hi w] 6 6 ∧ Modifies (.lsrAbs w) s (addrAbs w s) 2 (BitVec.ofNat 8 ((s.mem.read (addrAbs w s).ea).toNat / 2))
    (fun q => SetsShift s.p q (BitVec.ofNat 8 ((s.mem.read (addrAbs w s).ea).toNat / 2)) ((s.mem.read (addrAbs w s).ea).getLsbD 0))) ∧
  (∀ w, Encoded (.lsrAbx w) [0x5E, lo w, hi w] 7 7 ∧ Modifies (.lsrAbx w) s (addrAbx w s) 2 (BitVec.ofNat 8 ((s.mem.read (addrAbx w s).ea).toNat / 2))
    (fun q => SetsShift s.p q (BitVec.ofNat 8 ((s.mem.read (addrAbx w s).ea).toNat / 2)) ((s.mem.read (addrAbx w s).ea).getLsbD 0)))

/-- ROL and ROR in their five forms each: the old carry comes in at the free end, the bit rotated out goes to C, Z and N (R216, R217) -/
def Obligations.RotatesGoThroughCarry : Prop :=
  ∀ s : State,
  (Encoded .rolAcc [0x2A] 2 2 ∧ ShiftsA .rolAcc s (BitVec.ofNat 8 (2 * s.a.toNat + bit (s.flag .C))) (s.a.getLsbD 7)) ∧
  (∀ z, Encoded (.rolZp z) [0x26, z] 5 5 ∧ Modifies (.rolZp z) s (addrZp z s) 1 (BitVec.ofNat 8 (2 * (s.mem.read (addrZp z s).ea).toNat + bit (s.flag .C)))
    (fun q => SetsShift s.p q (BitVec.ofNat 8 (2 * (s.mem.read (addrZp z s).ea).toNat + bit (s.flag .C))) ((s.mem.read (addrZp z s).ea).getLsbD 7))) ∧
  (∀ z, Encoded (.rolZpx z) [0x36, z] 6 6 ∧ Modifies (.rolZpx z) s (addrZpx z s) 1 (BitVec.ofNat 8 (2 * (s.mem.read (addrZpx z s).ea).toNat + bit (s.flag .C)))
    (fun q => SetsShift s.p q (BitVec.ofNat 8 (2 * (s.mem.read (addrZpx z s).ea).toNat + bit (s.flag .C))) ((s.mem.read (addrZpx z s).ea).getLsbD 7))) ∧
  (∀ w, Encoded (.rolAbs w) [0x2E, lo w, hi w] 6 6 ∧ Modifies (.rolAbs w) s (addrAbs w s) 2 (BitVec.ofNat 8 (2 * (s.mem.read (addrAbs w s).ea).toNat + bit (s.flag .C)))
    (fun q => SetsShift s.p q (BitVec.ofNat 8 (2 * (s.mem.read (addrAbs w s).ea).toNat + bit (s.flag .C))) ((s.mem.read (addrAbs w s).ea).getLsbD 7))) ∧
  (∀ w, Encoded (.rolAbx w) [0x3E, lo w, hi w] 7 7 ∧ Modifies (.rolAbx w) s (addrAbx w s) 2 (BitVec.ofNat 8 (2 * (s.mem.read (addrAbx w s).ea).toNat + bit (s.flag .C)))
    (fun q => SetsShift s.p q (BitVec.ofNat 8 (2 * (s.mem.read (addrAbx w s).ea).toNat + bit (s.flag .C))) ((s.mem.read (addrAbx w s).ea).getLsbD 7))) ∧
  (Encoded .rorAcc [0x6A] 2 2 ∧ ShiftsA .rorAcc s (BitVec.ofNat 8 (s.a.toNat / 2 + 128 * bit (s.flag .C))) (s.a.getLsbD 0)) ∧
  (∀ z, Encoded (.rorZp z) [0x66, z] 5 5 ∧ Modifies (.rorZp z) s (addrZp z s) 1 (BitVec.ofNat 8 ((s.mem.read (addrZp z s).ea).toNat / 2 + 128 * bit (s.flag .C)))
    (fun q => SetsShift s.p q (BitVec.ofNat 8 ((s.mem.read (addrZp z s).ea).toNat / 2 + 128 * bit (s.flag .C))) ((s.mem.read (addrZp z s).ea).getLsbD 0))) ∧
  (∀ z, Encoded (.rorZpx z) [0x76, z] 6 6 ∧ Modifies (.rorZpx z) s (addrZpx z s) 1 (BitVec.ofNat 8 ((s.mem.read (addrZpx z s).ea).toNat / 2 + 128 * bit (s.flag .C)))
    (fun q => SetsShift s.p q (BitVec.ofNat 8 ((s.mem.read (addrZpx z s).ea).toNat / 2 + 128 * bit (s.flag .C))) ((s.mem.read (addrZpx z s).ea).getLsbD 0))) ∧
  (∀ w, Encoded (.rorAbs w) [0x6E, lo w, hi w] 6 6 ∧ Modifies (.rorAbs w) s (addrAbs w s) 2 (BitVec.ofNat 8 ((s.mem.read (addrAbs w s).ea).toNat / 2 + 128 * bit (s.flag .C)))
    (fun q => SetsShift s.p q (BitVec.ofNat 8 ((s.mem.read (addrAbs w s).ea).toNat / 2 + 128 * bit (s.flag .C))) ((s.mem.read (addrAbs w s).ea).getLsbD 0))) ∧
  (∀ w, Encoded (.rorAbx w) [0x7E, lo w, hi w] 7 7 ∧ Modifies (.rorAbx w) s (addrAbx w s) 2 (BitVec.ofNat 8 ((s.mem.read (addrAbx w s).ea).toNat / 2 + 128 * bit (s.flag .C)))
    (fun q => SetsShift s.p q (BitVec.ofNat 8 ((s.mem.read (addrAbx w s).ea).toNat / 2 + 128 * bit (s.flag .C))) ((s.mem.read (addrAbx w s).ea).getLsbD 0)))

/-- JMP absolute and indirect set PC to the resolved address and change nothing else (R230) -/
def Obligations.JmpSetsPc : Prop :=
  ∀ s : State,
  (∀ w, Encoded (.jmpAbs w) [0x4C, lo w, hi w] 3 3 ∧ ∃ t, exec (.jmpAbs w) s = .next t ∧ t.pc = (addrAbs w s).ea ∧ t.accesses = (addrAbs w s).state.accesses ∧
    t.status = { pageCrossed := false, branchTaken := false } ∧ SameMemory s t ∧
    t = { s with pc := t.pc, accesses := t.accesses, status := t.status }) ∧
  (∀ w, Encoded (.jmpInd w) [0x6C, lo w, hi w] 5 5 ∧ ∃ t, exec (.jmpInd w) s = .next t ∧ t.pc = (addrInd w s).ea ∧ t.accesses = (addrInd w s).state.accesses ∧
    t.status = { pageCrossed := false, branchTaken := false } ∧ SameMemory s t ∧
    t = { s with pc := t.pc, accesses := t.accesses, status := t.status })

/-- JSR pushes the address of its third byte, high byte first, lowers SP by 2 and continues at the operand word (R231) -/
def Obligations.JsrPushesItsLastByteAddress : Prop :=
  ∀ s : State,
  (∀ w, Encoded (.jsr w) [0x20, lo w, hi w] 6 6 ∧ ∃ t, exec (.jsr w) s = .next t ∧
    t.mem.read (stackSlot s.sp) = hi (s.pc + 1) ∧ t.mem.read (stackSlot (s.sp - 1)) = lo (s.pc + 1) ∧
    (∀ b : Word, b ≠ stackSlot s.sp → b ≠ stackSlot (s.sp - 1) → t.mem.read b = s.mem.read b) ∧
    t.sp = s.sp - 2 ∧ t.pc = w ∧
    t.accesses = s.accesses ++ [.read s.pc, .read (s.pc + 1), .write (stackSlot s.sp) (hi (s.pc + 1)),
      .write (stackSlot (s.sp - 1)) (lo (s.pc + 1))] ∧
    t.status = { pageCrossed := false, branchTaken := false } ∧
    t = { s with sp := t.sp, pc := t.pc, mem := t.mem, accesses := t.accesses, status := t.status })

/-- RTS pulls a word, low byte first, and continues one past it; after JSR that is the next instruction (R232) -/
def Obligations.RtsReturnsPastThePulledWord : Prop :=
  ∀ s : State,
  (Encoded .rts [0x60] 6 6 ∧ ∃ t, exec .rts s = .next t ∧
    t.pc = mkWord (s.mem.read (stackSlot (s.sp + 2))) (s.mem.read (stackSlot (s.sp + 1))) + 1 ∧ t.sp = s.sp + 2 ∧
    t.accesses = s.accesses ++ [.read (stackSlot (s.sp + 1)), .read (stackSlot (s.sp + 2))] ∧
    t.status = { pageCrossed := false, branchTaken := false } ∧ SameMemory s t ∧
    t = { s with sp := t.sp, pc := t.pc, accesses := t.accesses, status := t.status }) ∧
  (∀ (w : Word) (t : State), exec (.jsr w) s = .next t → ∃ u, exec .rts t = .next u ∧ u.pc = s.pc + 2 ∧ u.sp = s.sp)

/-- The eight branches go to the relative target exactly when their flag has their value; no flag changes (R233, R234, R235, R236, R237, R238, R239, R240, R241) -/
def Obligations.BranchesFollowTheirFlag : Prop :=
  ∀ s : State,
  (∀ off, Encoded (.bcc off) [0x90, off] 2 3 ∧ Branches (.bcc off) s off (decide (s.flag .C = false))) ∧
  (∀ off, Encoded (.bcs off) [0xB0, off] 2 3 ∧ Branches (.bcs off) s off (decide (s.flag .C = true))) ∧
  (∀ off, Encoded (.beq off) [0xF0, off] 2 3 ∧ Branches (.beq off) s off (decide (s.flag .Z = true))) ∧
  (∀ off, Encoded (.bmi off) [0x30, off] 2 3 ∧ Branches (.bmi off) s off (decide (s.flag .N = true))) ∧
  (∀ off, Encoded (.bne off) [0xD0, off] 2 3 ∧ Branches (.bne off) s off (decide (s.flag .Z = false))) ∧
  (∀ off, Encoded (.bpl off) [0x10, off] 2 3 ∧ Branches (.bpl off) s off (decide (s.flag .N = false))) ∧
  (∀ off, Encoded (.bvc off) [0x50, off] 2 3 ∧ Branches (.bvc off) s off (decide (s.flag .V = false))) ∧
  (∀ off, Encoded (.bvs off) [0x70, off] 2 3 ∧ Branches (.bvs off) s off (decide (s.flag .V = true)))

/-- BRK pushes the address two past its opcode and P with B and U set, sets I, and loads PC from 0xFFFE, whatever P.I is (R250, R286) -/
def Obligations.BrkEntersThroughTheIrqVector : Prop :=
  ∀ s : State,
  (Encoded .brk [0x00] 7 7 ∧ ∃ t, exec .brk s = .next t ∧
    EntersInterrupt s { t with status := s.status } (s.pc + 1) (s.p ||| 0x30) 0xFFFE ∧
    t.status = { pageCrossed := false, branchTaken := false } ∧
    getFlag (s.p ||| 0x30) .B = true ∧ getFlag (s.p ||| 0x30) .U = true ∧ KeepsFlagsBut s.p (s.p ||| 0x30) [.B, .U])

/-- RTI pulls P (B becomes 0, U 1), then PC low byte first, and continues at exactly the pulled address (R252) -/
def Obligations.RtiReturns : Prop :=
  ∀ s : State,
  (Encoded .rti [0x40] 6 6 ∧ ∃ t, exec .rti s = .next t ∧
    (∀ f : Flag, getFlag t.p f =
      if f = .B then false else if f = .U then true else getFlag (s.mem.read (stackSlot (s.sp + 1))) f) ∧
    t.pc = mkWord (s.mem.read (stackSlot (s.sp + 3))) (s.mem.read (stackSlot (s.sp + 2))) ∧ t.sp = s.sp + 3 ∧
    t.accesses = s.accesses ++
      [.read (stackSlot (s.sp + 1)), .read (stackSlot (s.sp + 2)), .read (stackSlot (s.sp + 3))] ∧
    t.status = { pageCrossed := false, branchTaken := false } ∧ SameMemory s t ∧
    t = { s with sp := t.sp, p := t.p, pc := t.pc, accesses := t.accesses, status := t.status })

/-- NOP changes nothing; CLC, SEC, CLI, SEI, CLV, CLD and SED write their one flag and nothing else (R253, R254, R255, R256, R257, R258, R259, R260) -/
def Obligations.NopAndFlagInstructions : Prop :=
  ∀ s : State,
  (Encoded .nop [0xEA] 2 2 ∧ Implied .nop s fun t => t = { s with status := t.status }) ∧
  (Encoded .clc [0x18] 2 2 ∧ ImpliedFlag .clc s .C false) ∧
  (Encoded .sec [0x38] 2 2 ∧ ImpliedFlag .sec s .C true) ∧
  (Encoded .cli [0x58] 2 2 ∧ ImpliedFlag .cli s .I false) ∧
  (Encoded .sei [0x78] 2 2 ∧ ImpliedFlag .sei s .I true) ∧
  (Encoded .clv [0xB8] 2 2 ∧ ImpliedFlag .clv s .V false) ∧
  (Encoded .cld [0xD8] 2 2 ∧ ImpliedFlag .cld s .D false) ∧
  (Encoded .sed [0xF8] 2 2 ∧ ImpliedFlag .sed s .D true)

/-- No instruction reads or writes a latch, and none writes a configuration input, the trace record or a step's outputs (10_state R38, R39, R41, R42) -/
def Obligations.NoInstructionTouchesLatchesOrInputs : Prop :=
  ∀ (i : Instr) (s t : State), exec i s = .next t →
    t.irq = s.irq ∧ t.nmi = s.nmi ∧ t.resetLine = s.resetLine ∧ t.brkStrict = s.brkStrict ∧ t.trace = s.trace ∧
    t.decimalEnabled = s.decimalEnabled ∧ t.record = s.record ∧ t.cycles = s.cycles ∧ t.outcome = s.outcome ∧
    ∀ x y z : Bool, exec i { s with irq := x, nmi := y, resetLine := z } =
      .next { t with irq := x, nmi := y, resetLine := z }

/-- Only the instructions the state rules name write C, I, D, V, the stack pointer and memory (10_state R24, R29, R31, R32, R33, R34, R35, 46_logic_shift R213) -/
def Obligations.WhoWritesWhat : Prop :=
  ∀ (i : Instr) (s t : State), exec i s = .next t →
    (getFlag t.p .V ≠ getFlag s.p .V → mnemonicOf i ∈ [some .ADC, some .SBC, some .BIT, some .CLV, some .PLP, some .RTI]) ∧
    (getFlag t.p .D ≠ getFlag s.p .D → mnemonicOf i ∈ [some .SED, some .CLD, some .PLP, some .RTI]) ∧
    (getFlag t.p .I ≠ getFlag s.p .I → mnemonicOf i ∈ [some .CLI, some .SEI, some .PLP, some .RTI, some .BRK]) ∧
    (getFlag t.p .C ≠ getFlag s.p .C → mnemonicOf i ∈ [some .ADC, some .SBC, some .CMP, some .CPX, some .CPY, some .ASL, some .LSR, some .ROL, some .ROR, some .CLC, some .SEC, some .PLP, some .RTI]) ∧
    (getFlag t.p .B ≠ getFlag s.p .B → mnemonicOf i ∈ [some .PLP, some .RTI]) ∧
    (getFlag t.p .U ≠ getFlag s.p .U → mnemonicOf i ∈ [some .PLP, some .RTI]) ∧
    (t.sp ≠ s.sp → mnemonicOf i ∈ [some .PHA, some .PHP, some .PLA, some .PLP, some .JSR, some .RTS, some .RTI, some .BRK, some .TXS]) ∧
    ((∃ b, t.mem.read b ≠ s.mem.read b) →
      mnemonicOf i ∈ [some .STA, some .STX, some .STY, some .INC, some .DEC, some .ASL, some .LSR, some .ROL, some .ROR, some .PHA, some .PHP, some .JSR, some .BRK])
end

