-- ==== Sys2Proof/Laws/Flags.lean ====
section
/-! SUPPORT. Reading a flag after writing one (10_state R28): the flag written has the value, the other seven are as they
were; and what each flag function does to each flag. -/

namespace Sys2Proof.Machine

/-- The flag written is the one that changes (R28). -/
theorem getFlag_setFlag (p : Byte) (f g : Flag) (b : Bool) :
    getFlag (setFlag p f b) g = if g = f then b else getFlag p g := by
  cases b <;> cases f <;> cases g <;>
    simp [getFlag, setFlag, Flag.bit, Flag.mask]

/-- Two status bytes with the same eight flags are the same byte. -/
theorem status_ext {p q : Byte} (h : ∀ f, getFlag p f = getFlag q f) : p = q := by
  apply BitVec.eq_of_getLsbD_eq
  intro i hi
  have : i = 0 ∨ i = 1 ∨ i = 2 ∨ i = 3 ∨ i = 4 ∨ i = 5 ∨ i = 6 ∨ i = 7 := by omega
  rcases this with rfl | rfl | rfl | rfl | rfl | rfl | rfl | rfl
  · exact h .C
  · exact h .Z
  · exact h .I
  · exact h .D
  · exact h .B
  · exact h .U
  · exact h .V
  · exact h .N

/-- `SetZN` on every flag (R142). -/
theorem getFlag_setZN (p v : Byte) (g : Flag) :
    getFlag (setZN p v) g = if g = .N then v.getLsbD 7 else if g = .Z then v == 0 else getFlag p g := by
  simp only [setZN, setNegative, setZero, getFlag_setFlag]

/-- `SetZN` keeps the six flags it does not name (R140). -/
theorem getFlag_setZN_other (p v : Byte) {g : Flag} (hz : g ≠ .Z) (hn : g ≠ .N) :
    getFlag (setZN p v) g = getFlag p g := by
  simp [getFlag_setZN, hz, hn]

/-- `Compare` on every flag (R149). -/
theorem getFlag_compareFlags (p r m : Byte) (g : Flag) :
    getFlag (compareFlags p r m) g =
      if g = .N then (r - m).getLsbD 7 else if g = .Z then r - m == 0 else if g = .C then m.ule r else getFlag p g := by
  simp only [compareFlags, getFlag_setZN, getFlag_setFlag]

/-- A shift or rotate on every flag (R150). -/
theorem getFlag_shiftFlags (p : Byte) (r : Shifted) (g : Flag) :
    getFlag (shiftFlags p r) g =
      if g = .N then r.result.getLsbD 7 else if g = .Z then r.result == 0 else if g = .C then r.carry else getFlag p g := by
  simp only [shiftFlags, getFlag_setZN, getFlag_setFlag]

/-- A status byte loaded whole (R185): B is 0, U is 1, the other six are the byte's. -/
theorem getFlag_loadedStatus (v : Byte) (g : Flag) :
    getFlag (loadedStatus v) g = if g = .B then false else if g = .U then true else getFlag v g := by
  cases g <;> simp [getFlag, loadedStatus, Flag.bit]

end Sys2Proof.Machine
end

