-- ==== Sys2Proof/Laws/Memory.lean ====
section
/-! SUPPORT. The memory behind the port (20_memory R50, R66): a read gives the last write, a write leaves every other address
alone, and every operation keeps the canonical form. -/

namespace Sys2Proof.Machine

theorem Memory.read_erase_self (m : Memory) (a : Word) : (m.erase a.toNat).read a = unlistedByte := by
  induction m with
  | nil => rfl
  | cons c m ih =>
    by_cases h : c.1 = a.toNat
    · simp [Memory.erase, h, ih]
    · simp [Memory.erase, Memory.read, h, ih]

theorem Memory.read_erase_other (m : Memory) {a : Word} {k : Nat} (h : k ≠ a.toNat) :
    (m.erase k).read a = m.read a := by
  induction m with
  | nil => rfl
  | cons c m ih =>
    by_cases hc : c.1 = k
    · have : c.1 ≠ a.toNat := fun e => h (hc.symm.trans e)
      simp [Memory.erase, Memory.read, hc, ih, h]
    · by_cases ha : c.1 = a.toNat
      · have hk : ¬a.toNat = k := fun e => h e.symm
        simp [Memory.erase, Memory.read, ha, hk]
      · simp [Memory.erase, Memory.read, hc, ha, ih]

theorem Memory.read_insert_other (m : Memory) {a : Word} {k : Nat} (v : Byte) (h : k ≠ a.toNat) :
    (m.insert k v).read a = m.read a := by
  induction m with
  | nil => simp [Memory.insert, Memory.read, h]
  | cons c m ih =>
    by_cases hk : k < c.1
    · simp [Memory.insert, Memory.read, hk, h]
    · rw [Memory.insert, if_neg hk, Memory.read, Memory.read, ih]

/-- No entry has the key. -/
def Memory.lacks (m : Memory) (k : Nat) : Prop := ∀ c ∈ m, c.1 ≠ k

theorem Memory.lacks_erase (m : Memory) (k : Nat) : (m.erase k).lacks k := by
  induction m with
  | nil => simp [Memory.erase, Memory.lacks]
  | cons c m ih =>
    by_cases h : c.1 = k
    · simpa [Memory.erase, h] using ih
    · intro d hd
      rw [Memory.erase, if_neg h] at hd
      rcases List.mem_cons.1 hd with rfl | hd
      · exact h
      · exact ih d hd

theorem Memory.read_insert_self (m : Memory) (a : Word) (v : Byte) (h : m.lacks a.toNat) :
    (m.insert a.toNat v).read a = v := by
  induction m with
  | nil => simp [Memory.insert, Memory.read]
  | cons c m ih =>
    have hc : c.1 ≠ a.toNat := h c (List.mem_cons_self ..)
    have hm : Memory.lacks m a.toNat := fun d hd => h d (List.mem_cons_of_mem _ hd)
    by_cases hk : a.toNat < c.1
    · simp [Memory.insert, Memory.read, hk]
    · simp [Memory.insert, Memory.read, hk, hc, ih hm]

/-- A read after a write to the same address gives the byte written, in any memory. -/
theorem Memory.read_write_self (m : Memory) (a : Word) (v : Byte) : (m.write a v).read a = v := by
  unfold Memory.write
  split
  · rename_i h
    rw [Memory.read_erase_self, h]
  · exact Memory.read_insert_self _ _ _ (Memory.lacks_erase m a.toNat)

/-- A write leaves every other address alone, in any memory. -/
theorem Memory.read_write_other (m : Memory) {a b : Word} (v : Byte) (h : b ≠ a) :
    (m.write a v).read b = m.read b := by
  have hn : a.toNat ≠ b.toNat := fun e => h (BitVec.eq_of_toNat_eq e.symm)
  unfold Memory.write
  split
  · exact Memory.read_erase_other m hn
  · rw [Memory.read_insert_other _ v hn, Memory.read_erase_other m hn]

/-- Reading after a write, as one equation. -/
theorem Memory.read_write (m : Memory) (a b : Word) (v : Byte) :
    (m.write a v).read b = if b = a then v else m.read b := by
  split
  · rename_i h
    rw [h, Memory.read_write_self]
  · rename_i h
    exact Memory.read_write_other m v h

theorem Memory.wfFrom_le {n k : Nat} (h : k ≤ n) : ∀ {m : Memory}, Memory.wfFrom n m = true → Memory.wfFrom k m = true
  | [], _ => rfl
  | c :: m, hm => by
    simp only [Memory.wfFrom, Bool.and_eq_true, decide_eq_true_eq] at hm ⊢
    exact ⟨⟨⟨le_trans h hm.1.1.1, hm.1.1.2⟩, hm.1.2⟩, hm.2⟩

theorem Memory.wfFrom_erase (k : Nat) : ∀ {n : Nat} {m : Memory}, Memory.wfFrom n m = true → Memory.wfFrom n (m.erase k) = true
  | _, [], _ => rfl
  | n, c :: m, hm => by
    simp only [Memory.wfFrom, Bool.and_eq_true, decide_eq_true_eq] at hm
    have ih := Memory.wfFrom_erase k hm.2
    by_cases h : c.1 = k
    · rw [Memory.erase, if_pos h]
      exact Memory.wfFrom_le (by omega) ih
    · rw [Memory.erase, if_neg h]
      simp only [Memory.wfFrom, Bool.and_eq_true, decide_eq_true_eq]
      exact ⟨hm.1, ih⟩

theorem Memory.wfFrom_insert (k : Nat) (v : Byte) (hk : k < 65536) (hv : v ≠ unlistedByte) :
    ∀ {n : Nat} {m : Memory}, n ≤ k → m.lacks k → Memory.wfFrom n m = true → Memory.wfFrom n (m.insert k v) = true
  | n, [], hn, _, _ => by
    simp [Memory.insert, Memory.wfFrom, hk, hv, hn]
  | n, c :: m, hn, hl, hm => by
    have hc : c.1 ≠ k := hl c (List.mem_cons_self ..)
    have hl' : Memory.lacks m k := fun d hd => hl d (List.mem_cons_of_mem _ hd)
    simp only [Memory.wfFrom, Bool.and_eq_true, decide_eq_true_eq] at hm
    by_cases h : k < c.1
    · rw [Memory.insert, if_pos h]
      simp only [Memory.wfFrom, Bool.and_eq_true, decide_eq_true_eq]
      exact ⟨⟨⟨hn, hk⟩, by simpa using hv⟩, ⟨⟨by omega, hm.1.1.2⟩, hm.1.2⟩, hm.2⟩
    · rw [Memory.insert, if_neg h]
      simp only [Memory.wfFrom, Bool.and_eq_true, decide_eq_true_eq]
      exact ⟨hm.1, Memory.wfFrom_insert k v hk hv (by omega) hl' hm.2⟩

/-- A write keeps the canonical form. -/
theorem Memory.wf_write (m : Memory) (a : Word) (v : Byte) (h : m.wf = true) : (m.write a v).wf = true := by
  unfold Memory.write
  split
  · exact Memory.wfFrom_erase _ h
  · rename_i hv
    exact Memory.wfFrom_insert _ v a.isLt hv (Nat.zero_le _) (Memory.lacks_erase m _) (Memory.wfFrom_erase _ h)

/-- `store` keeps the canonical form. -/
theorem Memory.wf_store (m : Memory) (a : Word) (v : Byte) (h : m.wf = true) : (m.store a v).2.wf = true :=
  Memory.wf_write m a v h

end Sys2Proof.Machine
end

