-- ==== Sys2Proof/Laws/State.lean ====
section
/-! SUPPORT. What each named update of the state does to each field, once and for all (true by rfl), so that no later proof
unfolds a record update. -/

namespace Sys2Proof.Machine

@[simp] theorem State.setA_a (s : State) (v : Byte) : (s.setA v).a = v := rfl
@[simp] theorem State.setA_x (s : State) (v : Byte) : (s.setA v).x = s.x := rfl
@[simp] theorem State.setA_y (s : State) (v : Byte) : (s.setA v).y = s.y := rfl
@[simp] theorem State.setA_sp (s : State) (v : Byte) : (s.setA v).sp = s.sp := rfl
@[simp] theorem State.setA_p (s : State) (v : Byte) : (s.setA v).p = s.p := rfl
@[simp] theorem State.setA_pc (s : State) (v : Byte) : (s.setA v).pc = s.pc := rfl
@[simp] theorem State.setA_irq (s : State) (v : Byte) : (s.setA v).irq = s.irq := rfl
@[simp] theorem State.setA_nmi (s : State) (v : Byte) : (s.setA v).nmi = s.nmi := rfl
@[simp] theorem State.setA_resetLine (s : State) (v : Byte) : (s.setA v).resetLine = s.resetLine := rfl
@[simp] theorem State.setA_brkStrict (s : State) (v : Byte) : (s.setA v).brkStrict = s.brkStrict := rfl
@[simp] theorem State.setA_trace (s : State) (v : Byte) : (s.setA v).trace = s.trace := rfl
@[simp] theorem State.setA_decimalEnabled (s : State) (v : Byte) : (s.setA v).decimalEnabled = s.decimalEnabled := rfl
@[simp] theorem State.setA_record (s : State) (v : Byte) : (s.setA v).record = s.record := rfl
@[simp] theorem State.setA_mem (s : State) (v : Byte) : (s.setA v).mem = s.mem := rfl
@[simp] theorem State.setA_accesses (s : State) (v : Byte) : (s.setA v).accesses = s.accesses := rfl
@[simp] theorem State.setA_status (s : State) (v : Byte) : (s.setA v).status = s.status := rfl
@[simp] theorem State.setA_cycles (s : State) (v : Byte) : (s.setA v).cycles = s.cycles := rfl
@[simp] theorem State.setA_outcome (s : State) (v : Byte) : (s.setA v).outcome = s.outcome := rfl

@[simp] theorem State.setX_a (s : State) (v : Byte) : (s.setX v).a = s.a := rfl
@[simp] theorem State.setX_x (s : State) (v : Byte) : (s.setX v).x = v := rfl
@[simp] theorem State.setX_y (s : State) (v : Byte) : (s.setX v).y = s.y := rfl
@[simp] theorem State.setX_sp (s : State) (v : Byte) : (s.setX v).sp = s.sp := rfl
@[simp] theorem State.setX_p (s : State) (v : Byte) : (s.setX v).p = s.p := rfl
@[simp] theorem State.setX_pc (s : State) (v : Byte) : (s.setX v).pc = s.pc := rfl
@[simp] theorem State.setX_irq (s : State) (v : Byte) : (s.setX v).irq = s.irq := rfl
@[simp] theorem State.setX_nmi (s : State) (v : Byte) : (s.setX v).nmi = s.nmi := rfl
@[simp] theorem State.setX_resetLine (s : State) (v : Byte) : (s.setX v).resetLine = s.resetLine := rfl
@[simp] theorem State.setX_brkStrict (s : State) (v : Byte) : (s.setX v).brkStrict = s.brkStrict := rfl
@[simp] theorem State.setX_trace (s : State) (v : Byte) : (s.setX v).trace = s.trace := rfl
@[simp] theorem State.setX_decimalEnabled (s : State) (v : Byte) : (s.setX v).decimalEnabled = s.decimalEnabled := rfl
@[simp] theorem State.setX_record (s : State) (v : Byte) : (s.setX v).record = s.record := rfl
@[simp] theorem State.setX_mem (s : State) (v : Byte) : (s.setX v).mem = s.mem := rfl
@[simp] theorem State.setX_accesses (s : State) (v : Byte) : (s.setX v).accesses = s.accesses := rfl
@[simp] theorem State.setX_status (s : State) (v : Byte) : (s.setX v).status = s.status := rfl
@[simp] theorem State.setX_cycles (s : State) (v : Byte) : (s.setX v).cycles = s.cycles := rfl
@[simp] theorem State.setX_outcome (s : State) (v : Byte) : (s.setX v).outcome = s.outcome := rfl

@[simp] theorem State.setY_a (s : State) (v : Byte) : (s.setY v).a = s.a := rfl
@[simp] theorem State.setY_x (s : State) (v : Byte) : (s.setY v).x = s.x := rfl
@[simp] theorem State.setY_y (s : State) (v : Byte) : (s.setY v).y = v := rfl
@[simp] theorem State.setY_sp (s : State) (v : Byte) : (s.setY v).sp = s.sp := rfl
@[simp] theorem State.setY_p (s : State) (v : Byte) : (s.setY v).p = s.p := rfl
@[simp] theorem State.setY_pc (s : State) (v : Byte) : (s.setY v).pc = s.pc := rfl
@[simp] theorem State.setY_irq (s : State) (v : Byte) : (s.setY v).irq = s.irq := rfl
@[simp] theorem State.setY_nmi (s : State) (v : Byte) : (s.setY v).nmi = s.nmi := rfl
@[simp] theorem State.setY_resetLine (s : State) (v : Byte) : (s.setY v).resetLine = s.resetLine := rfl
@[simp] theorem State.setY_brkStrict (s : State) (v : Byte) : (s.setY v).brkStrict = s.brkStrict := rfl
@[simp] theorem State.setY_trace (s : State) (v : Byte) : (s.setY v).trace = s.trace := rfl
@[simp] theorem State.setY_decimalEnabled (s : State) (v : Byte) : (s.setY v).decimalEnabled = s.decimalEnabled := rfl
@[simp] theorem State.setY_record (s : State) (v : Byte) : (s.setY v).record = s.record := rfl
@[simp] theorem State.setY_mem (s : State) (v : Byte) : (s.setY v).mem = s.mem := rfl
@[simp] theorem State.setY_accesses (s : State) (v : Byte) : (s.setY v).accesses = s.accesses := rfl
@[simp] theorem State.setY_status (s : State) (v : Byte) : (s.setY v).status = s.status := rfl
@[simp] theorem State.setY_cycles (s : State) (v : Byte) : (s.setY v).cycles = s.cycles := rfl
@[simp] theorem State.setY_outcome (s : State) (v : Byte) : (s.setY v).outcome = s.outcome := rfl

@[simp] theorem State.setSp_a (s : State) (v : Byte) : (s.setSp v).a = s.a := rfl
@[simp] theorem State.setSp_x (s : State) (v : Byte) : (s.setSp v).x = s.x := rfl
@[simp] theorem State.setSp_y (s : State) (v : Byte) : (s.setSp v).y = s.y := rfl
@[simp] theorem State.setSp_sp (s : State) (v : Byte) : (s.setSp v).sp = v := rfl
@[simp] theorem State.setSp_p (s : State) (v : Byte) : (s.setSp v).p = s.p := rfl
@[simp] theorem State.setSp_pc (s : State) (v : Byte) : (s.setSp v).pc = s.pc := rfl
@[simp] theorem State.setSp_irq (s : State) (v : Byte) : (s.setSp v).irq = s.irq := rfl
@[simp] theorem State.setSp_nmi (s : State) (v : Byte) : (s.setSp v).nmi = s.nmi := rfl
@[simp] theorem State.setSp_resetLine (s : State) (v : Byte) : (s.setSp v).resetLine = s.resetLine := rfl
@[simp] theorem State.setSp_brkStrict (s : State) (v : Byte) : (s.setSp v).brkStrict = s.brkStrict := rfl
@[simp] theorem State.setSp_trace (s : State) (v : Byte) : (s.setSp v).trace = s.trace := rfl
@[simp] theorem State.setSp_decimalEnabled (s : State) (v : Byte) : (s.setSp v).decimalEnabled = s.decimalEnabled := rfl
@[simp] theorem State.setSp_record (s : State) (v : Byte) : (s.setSp v).record = s.record := rfl
@[simp] theorem State.setSp_mem (s : State) (v : Byte) : (s.setSp v).mem = s.mem := rfl
@[simp] theorem State.setSp_accesses (s : State) (v : Byte) : (s.setSp v).accesses = s.accesses := rfl
@[simp] theorem State.setSp_status (s : State) (v : Byte) : (s.setSp v).status = s.status := rfl
@[simp] theorem State.setSp_cycles (s : State) (v : Byte) : (s.setSp v).cycles = s.cycles := rfl
@[simp] theorem State.setSp_outcome (s : State) (v : Byte) : (s.setSp v).outcome = s.outcome := rfl

@[simp] theorem State.setP_a (s : State) (v : Byte) : (s.setP v).a = s.a := rfl
@[simp] theorem State.setP_x (s : State) (v : Byte) : (s.setP v).x = s.x := rfl
@[simp] theorem State.setP_y (s : State) (v : Byte) : (s.setP v).y = s.y := rfl
@[simp] theorem State.setP_sp (s : State) (v : Byte) : (s.setP v).sp = s.sp := rfl
@[simp] theorem State.setP_p (s : State) (v : Byte) : (s.setP v).p = v := rfl
@[simp] theorem State.setP_pc (s : State) (v : Byte) : (s.setP v).pc = s.pc := rfl
@[simp] theorem State.setP_irq (s : State) (v : Byte) : (s.setP v).irq = s.irq := rfl
@[simp] theorem State.setP_nmi (s : State) (v : Byte) : (s.setP v).nmi = s.nmi := rfl
@[simp] theorem State.setP_resetLine (s : State) (v : Byte) : (s.setP v).resetLine = s.resetLine := rfl
@[simp] theorem State.setP_brkStrict (s : State) (v : Byte) : (s.setP v).brkStrict = s.brkStrict := rfl
@[simp] theorem State.setP_trace (s : State) (v : Byte) : (s.setP v).trace = s.trace := rfl
@[simp] theorem State.setP_decimalEnabled (s : State) (v : Byte) : (s.setP v).decimalEnabled = s.decimalEnabled := rfl
@[simp] theorem State.setP_record (s : State) (v : Byte) : (s.setP v).record = s.record := rfl
@[simp] theorem State.setP_mem (s : State) (v : Byte) : (s.setP v).mem = s.mem := rfl
@[simp] theorem State.setP_accesses (s : State) (v : Byte) : (s.setP v).accesses = s.accesses := rfl
@[simp] theorem State.setP_status (s : State) (v : Byte) : (s.setP v).status = s.status := rfl
@[simp] theorem State.setP_cycles (s : State) (v : Byte) : (s.setP v).cycles = s.cycles := rfl
@[simp] theorem State.setP_outcome (s : State) (v : Byte) : (s.setP v).outcome = s.outcome := rfl

@[simp] theorem State.setPc_a (s : State) (v : Word) : (s.setPc v).a = s.a := rfl
@[simp] theorem State.setPc_x (s : State) (v : Word) : (s.setPc v).x = s.x := rfl
@[simp] theorem State.setPc_y (s : State) (v : Word) : (s.setPc v).y = s.y := rfl
@[simp] theorem State.setPc_sp (s : State) (v : Word) : (s.setPc v).sp = s.sp := rfl
@[simp] theorem State.setPc_p (s : State) (v : Word) : (s.setPc v).p = s.p := rfl
@[simp] theorem State.setPc_pc (s : State) (v : Word) : (s.setPc v).pc = v := rfl
@[simp] theorem State.setPc_irq (s : State) (v : Word) : (s.setPc v).irq = s.irq := rfl
@[simp] theorem State.setPc_nmi (s : State) (v : Word) : (s.setPc v).nmi = s.nmi := rfl
@[simp] theorem State.setPc_resetLine (s : State) (v : Word) : (s.setPc v).resetLine = s.resetLine := rfl
@[simp] theorem State.setPc_brkStrict (s : State) (v : Word) : (s.setPc v).brkStrict = s.brkStrict := rfl
@[simp] theorem State.setPc_trace (s : State) (v : Word) : (s.setPc v).trace = s.trace := rfl
@[simp] theorem State.setPc_decimalEnabled (s : State) (v : Word) : (s.setPc v).decimalEnabled = s.decimalEnabled := rfl
@[simp] theorem State.setPc_record (s : State) (v : Word) : (s.setPc v).record = s.record := rfl
@[simp] theorem State.setPc_mem (s : State) (v : Word) : (s.setPc v).mem = s.mem := rfl
@[simp] theorem State.setPc_accesses (s : State) (v : Word) : (s.setPc v).accesses = s.accesses := rfl
@[simp] theorem State.setPc_status (s : State) (v : Word) : (s.setPc v).status = s.status := rfl
@[simp] theorem State.setPc_cycles (s : State) (v : Word) : (s.setPc v).cycles = s.cycles := rfl
@[simp] theorem State.setPc_outcome (s : State) (v : Word) : (s.setPc v).outcome = s.outcome := rfl

@[simp] theorem State.setMem_a (s : State) (v : Memory) : (s.setMem v).a = s.a := rfl
@[simp] theorem State.setMem_x (s : State) (v : Memory) : (s.setMem v).x = s.x := rfl
@[simp] theorem State.setMem_y (s : State) (v : Memory) : (s.setMem v).y = s.y := rfl
@[simp] theorem State.setMem_sp (s : State) (v : Memory) : (s.setMem v).sp = s.sp := rfl
@[simp] theorem State.setMem_p (s : State) (v : Memory) : (s.setMem v).p = s.p := rfl
@[simp] theorem State.setMem_pc (s : State) (v : Memory) : (s.setMem v).pc = s.pc := rfl
@[simp] theorem State.setMem_irq (s : State) (v : Memory) : (s.setMem v).irq = s.irq := rfl
@[simp] theorem State.setMem_nmi (s : State) (v : Memory) : (s.setMem v).nmi = s.nmi := rfl
@[simp] theorem State.setMem_resetLine (s : State) (v : Memory) : (s.setMem v).resetLine = s.resetLine := rfl
@[simp] theorem State.setMem_brkStrict (s : State) (v : Memory) : (s.setMem v).brkStrict = s.brkStrict := rfl
@[simp] theorem State.setMem_trace (s : State) (v : Memory) : (s.setMem v).trace = s.trace := rfl
@[simp] theorem State.setMem_decimalEnabled (s : State) (v : Memory) : (s.setMem v).decimalEnabled = s.decimalEnabled := rfl
@[simp] theorem State.setMem_record (s : State) (v : Memory) : (s.setMem v).record = s.record := rfl
@[simp] theorem State.setMem_mem (s : State) (v : Memory) : (s.setMem v).mem = v := rfl
@[simp] theorem State.setMem_accesses (s : State) (v : Memory) : (s.setMem v).accesses = s.accesses := rfl
@[simp] theorem State.setMem_status (s : State) (v : Memory) : (s.setMem v).status = s.status := rfl
@[simp] theorem State.setMem_cycles (s : State) (v : Memory) : (s.setMem v).cycles = s.cycles := rfl
@[simp] theorem State.setMem_outcome (s : State) (v : Memory) : (s.setMem v).outcome = s.outcome := rfl

@[simp] theorem State.setStatus_a (s : State) (v : Status) : (s.setStatus v).a = s.a := rfl
@[simp] theorem State.setStatus_x (s : State) (v : Status) : (s.setStatus v).x = s.x := rfl
@[simp] theorem State.setStatus_y (s : State) (v : Status) : (s.setStatus v).y = s.y := rfl
@[simp] theorem State.setStatus_sp (s : State) (v : Status) : (s.setStatus v).sp = s.sp := rfl
@[simp] theorem State.setStatus_p (s : State) (v : Status) : (s.setStatus v).p = s.p := rfl
@[simp] theorem State.setStatus_pc (s : State) (v : Status) : (s.setStatus v).pc = s.pc := rfl
@[simp] theorem State.setStatus_irq (s : State) (v : Status) : (s.setStatus v).irq = s.irq := rfl
@[simp] theorem State.setStatus_nmi (s : State) (v : Status) : (s.setStatus v).nmi = s.nmi := rfl
@[simp] theorem State.setStatus_resetLine (s : State) (v : Status) : (s.setStatus v).resetLine = s.resetLine := rfl
@[simp] theorem State.setStatus_brkStrict (s : State) (v : Status) : (s.setStatus v).brkStrict = s.brkStrict := rfl
@[simp] theorem State.setStatus_trace (s : State) (v : Status) : (s.setStatus v).trace = s.trace := rfl
@[simp] theorem State.setStatus_decimalEnabled (s : State) (v : Status) : (s.setStatus v).decimalEnabled = s.decimalEnabled := rfl
@[simp] theorem State.setStatus_record (s : State) (v : Status) : (s.setStatus v).record = s.record := rfl
@[simp] theorem State.setStatus_mem (s : State) (v : Status) : (s.setStatus v).mem = s.mem := rfl
@[simp] theorem State.setStatus_accesses (s : State) (v : Status) : (s.setStatus v).accesses = s.accesses := rfl
@[simp] theorem State.setStatus_status (s : State) (v : Status) : (s.setStatus v).status = v := rfl
@[simp] theorem State.setStatus_cycles (s : State) (v : Status) : (s.setStatus v).cycles = s.cycles := rfl
@[simp] theorem State.setStatus_outcome (s : State) (v : Status) : (s.setStatus v).outcome = s.outcome := rfl

@[simp] theorem State.log_a (s : State) (v : Access) : (s.log v).a = s.a := rfl
@[simp] theorem State.log_x (s : State) (v : Access) : (s.log v).x = s.x := rfl
@[simp] theorem State.log_y (s : State) (v : Access) : (s.log v).y = s.y := rfl
@[simp] theorem State.log_sp (s : State) (v : Access) : (s.log v).sp = s.sp := rfl
@[simp] theorem State.log_p (s : State) (v : Access) : (s.log v).p = s.p := rfl
@[simp] theorem State.log_pc (s : State) (v : Access) : (s.log v).pc = s.pc := rfl
@[simp] theorem State.log_irq (s : State) (v : Access) : (s.log v).irq = s.irq := rfl
@[simp] theorem State.log_nmi (s : State) (v : Access) : (s.log v).nmi = s.nmi := rfl
@[simp] theorem State.log_resetLine (s : State) (v : Access) : (s.log v).resetLine = s.resetLine := rfl
@[simp] theorem State.log_brkStrict (s : State) (v : Access) : (s.log v).brkStrict = s.brkStrict := rfl
@[simp] theorem State.log_trace (s : State) (v : Access) : (s.log v).trace = s.trace := rfl
@[simp] theorem State.log_decimalEnabled (s : State) (v : Access) : (s.log v).decimalEnabled = s.decimalEnabled := rfl
@[simp] theorem State.log_record (s : State) (v : Access) : (s.log v).record = s.record := rfl
@[simp] theorem State.log_mem (s : State) (v : Access) : (s.log v).mem = s.mem := rfl
@[simp] theorem State.log_accesses (s : State) (v : Access) : (s.log v).accesses = s.accesses ++ [v] := rfl
@[simp] theorem State.log_status (s : State) (v : Access) : (s.log v).status = s.status := rfl
@[simp] theorem State.log_cycles (s : State) (v : Access) : (s.log v).cycles = s.cycles := rfl
@[simp] theorem State.log_outcome (s : State) (v : Access) : (s.log v).outcome = s.outcome := rfl

end Sys2Proof.Machine
end

