-- ==== Sys2Proof/Laws/Ops.lean ====
section
/-! SUPPORT. What each shared operation can do, once: the port, the stack, interrupt entry and return. -/

namespace Sys2Proof.Machine

/-- `(h : l)` as a number (00_scope R7). -/
theorem mkWord_toNat (h l : Byte) : (mkWord h l).toNat = 256 * h.toNat + l.toNat := by
  have e : (mkWord h l).toNat = (h ++ l : BitVec (8 + 8)).toNat := rfl
  rw [e, BitVec.toNat_append, ← Nat.shiftLeft_add_eq_or_of_lt l.isLt, Nat.shiftLeft_eq]
  omega

theorem hi_toNat (w : Word) : (hi w).toNat = w.toNat / 256 := by
  have := w.isLt
  simp [hi, Nat.shiftRight_eq_div_pow]
  omega

theorem lo_toNat (w : Word) : (lo w).toNat = w.toNat % 256 := by
  simp [lo]

theorem hi_mkWord (h l : Byte) : hi (mkWord h l) = h := by
  apply BitVec.eq_of_toNat_eq
  have := l.isLt
  rw [hi_toNat, mkWord_toNat]
  omega

theorem lo_mkWord (h l : Byte) : lo (mkWord h l) = l := by
  apply BitVec.eq_of_toNat_eq
  have := l.isLt
  rw [lo_toNat, mkWord_toNat]
  omega

/-- `(hi(w) : lo(w)) = w`. -/
theorem mkWord_hi_lo (w : Word) : mkWord (hi w) (lo w) = w := by
  apply BitVec.eq_of_toNat_eq
  rw [mkWord_toNat, hi_toNat, lo_toNat]
  omega

/-- Two words of the same page are equal where their low bytes are. -/
theorem mkWord_inj {h l h' l' : Byte} : mkWord h l = mkWord h' l' ↔ h = h' ∧ l = l' := by
  constructor
  · intro e
    exact ⟨by rw [← hi_mkWord h l, e, hi_mkWord], by rw [← lo_mkWord h l, e, lo_mkWord]⟩
  · rintro ⟨rfl, rfl⟩
    rfl

@[simp] theorem memRead_fst (a : Word) (s : State) : (memRead a s).1 = s.mem.read a := rfl
@[simp] theorem memRead_snd (a : Word) (s : State) : (memRead a s).2 = s.log (.read a) := rfl

/-- A write through the port: memory and the port's record change, nothing else. -/
theorem memWrite_eq (a : Word) (v : Byte) (s : State) :
    memWrite a v s = { s with mem := s.mem.write a v, accesses := s.accesses ++ [.write a v] } := rfl

/-- `MemRead16` (R55): the two bytes at the address and the next, low first. -/
theorem memRead16_eq (a : Word) (s : State) :
    memRead16 a s =
      (mkWord (s.mem.read (a + 1)) (s.mem.read a),
        { s with accesses := s.accesses ++ [.read a, .read (a + 1)] }) := by
  simp [memRead16, State.log]

/-- `MemRead16ZP` (R56): both bytes from page zero. -/
theorem memRead16Zp_eq (z : Byte) (s : State) :
    memRead16Zp z s =
      (mkWord (s.mem.read (zeroPage (z + 1))) (s.mem.read (zeroPage z)),
        { s with accesses := s.accesses ++ [.read (zeroPage z), .read (zeroPage (z + 1))] }) := by
  simp [memRead16Zp, State.log]

/-- `Push` (R57). -/
theorem push_eq (v : Byte) (s : State) :
    push v s =
      { s with
        mem := s.mem.write (stackSlot s.sp) v, sp := s.sp - 1
        accesses := s.accesses ++ [.write (stackSlot s.sp) v] } := rfl

/-- `Pull` (R58). -/
theorem pull_eq (s : State) :
    pull s =
      (s.mem.read (stackSlot (s.sp + 1)),
        { s with sp := s.sp + 1, accesses := s.accesses ++ [.read (stackSlot (s.sp + 1))] }) := rfl

/-- `Push16` (R59): the high byte, then the low byte below it. -/
theorem push16_eq (w : Word) (s : State) :
    push16 w s =
      { s with
        mem := (s.mem.write (stackSlot s.sp) (hi w)).write (stackSlot (s.sp - 1)) (lo w), sp := s.sp - 1 - 1
        accesses := s.accesses ++ [.write (stackSlot s.sp) (hi w), .write (stackSlot (s.sp - 1)) (lo w)] } := by
  simp [push16, push_eq]

/-- `Pull16` (R59): the low byte, then the high byte above it. -/
theorem pull16_eq (s : State) :
    pull16 s =
      (mkWord (s.mem.read (stackSlot (s.sp + 1 + 1))) (s.mem.read (stackSlot (s.sp + 1))),
        { s with
          sp := s.sp + 1 + 1
          accesses := s.accesses ++ [.read (stackSlot (s.sp + 1)), .read (stackSlot (s.sp + 1 + 1))] }) := by
  simp [pull16, pull_eq]

/-- Loading a vector (R283): `PC` and the port's record change, nothing else. -/
theorem loadVector_eq (vector : Word) (s : State) :
    loadVector vector s =
      { s with
        pc := mkWord (s.mem.read (vector + 1)) (s.mem.read vector)
        accesses := s.accesses ++ [.read vector, .read (vector + 1)] } := by
  simp [loadVector, memRead16_eq, State.setPc]

/-- The memory after an interrupt entry's three pushes (R280, R250). -/
def entryMemory (returnTo : Word) (status : Byte) (s : State) : Memory :=
  ((s.mem.write (stackSlot s.sp) (hi returnTo)).write (stackSlot (s.sp - 1)) (lo returnTo)).write
    (stackSlot (s.sp - 1 - 1)) status

/-- Entering an interrupt (R280, R250): everything it does. -/
theorem enterInterrupt_eq (returnTo : Word) (status : Byte) (vector : Word) (s : State) :
    enterInterrupt returnTo status vector s =
      { s with
        mem := entryMemory returnTo status s
        sp := s.sp - 1 - 1 - 1
        p := setFlag s.p .I true
        pc := mkWord ((entryMemory returnTo status s).read (vector + 1)) ((entryMemory returnTo status s).read vector)
        accesses := s.accesses ++
          [.write (stackSlot s.sp) (hi returnTo), .write (stackSlot (s.sp - 1)) (lo returnTo),
            .write (stackSlot (s.sp - 1 - 1)) status, .read vector, .read (vector + 1)] } := by
  simp [enterInterrupt, loadVector_eq, push16_eq, push_eq, State.setFlagTo, State.setP, entryMemory]

/-- RTI (R252): everything it does. -/
theorem returnFromInterrupt_eq (s : State) :
    returnFromInterrupt s =
      { s with
        p := loadedStatus (s.mem.read (stackSlot (s.sp + 1)))
        pc := mkWord (s.mem.read (stackSlot (s.sp + 1 + 1 + 1))) (s.mem.read (stackSlot (s.sp + 1 + 1)))
        sp := s.sp + 1 + 1 + 1
        accesses := s.accesses ++
          [.read (stackSlot (s.sp + 1)), .read (stackSlot (s.sp + 1 + 1)), .read (stackSlot (s.sp + 1 + 1 + 1))] } := by
  simp [returnFromInterrupt, pull16_eq, pull_eq, State.setP, State.setPc]

/-- RTS (R232): everything it does. -/
theorem returnFromSubroutine_eq (s : State) :
    returnFromSubroutine s =
      { s with
        pc := mkWord (s.mem.read (stackSlot (s.sp + 1 + 1))) (s.mem.read (stackSlot (s.sp + 1))) + 1
        sp := s.sp + 1 + 1
        accesses := s.accesses ++ [.read (stackSlot (s.sp + 1)), .read (stackSlot (s.sp + 1 + 1))] } := by
  simp [returnFromSubroutine, pull16_eq, State.setPc]

/-! Stack slots, vectors and small numbers -/

/-- Two stack slots are equal where their `SP` is. -/
theorem stackSlot_inj {a b : Byte} : stackSlot a = stackSlot b ↔ a = b := by
  simp [stackSlot, mkWord_inj]

/-- A stack slot's address lies in page one (R57). -/
theorem stackSlot_toNat (sp : Byte) : (stackSlot sp).toNat = 256 + sp.toNat := by
  rw [stackSlot, mkWord_toNat]
  rfl

/-- A page-zero address is its byte. -/
theorem zeroPage_toNat (z : Byte) : (zeroPage z).toNat = z.toNat := by
  have e : (0x00 : Byte).toNat = 0 := rfl
  rw [zeroPage, mkWord_toNat, e]
  omega

/-- No address outside page one is a stack slot. -/
theorem ne_stackSlot {a : Word} (h : 512 ≤ a.toNat) (sp : Byte) : a ≠ stackSlot sp := by
  rintro rfl
  rw [stackSlot_toNat] at h
  have := sp.isLt
  omega

/-- An interrupt entry's pushes leave every address outside page one alone, the vectors among them (R64, R280). -/
theorem entryMemory_read_outside (r : Word) (st : Byte) (s : State) {a : Word} (h : 512 ≤ a.toNat) :
    (entryMemory r st s).read a = s.mem.read a := by
  rw [entryMemory, Memory.read_write_other _ _ (ne_stackSlot h _), Memory.read_write_other _ _ (ne_stackSlot h _),
    Memory.read_write_other _ _ (ne_stackSlot h _)]

/-- The 16-bit sum of the adder as a number (42_flags R143): it never wraps. -/
theorem sum16_toNat (a b : Byte) (c : Bool) :
    (sum16 a b c).toNat = a.toNat + b.toNat + (if c then 1 else 0) := by
  have ha := a.isLt
  have hb := b.isLt
  cases c <;> simp [sum16, bitWord] <;> omega

end Sys2Proof.Machine
end

