-- ==== Sys2Proof/Laws/Operands.lean ====
section
/-! SUPPORT. What each resolver of the addressing-mode decoder does to the state (41_addressing R120): `PC` and the port's
record, nothing else; and what the three shapes of operand access do. -/

namespace Sys2Proof.Machine

/-- Reading one operand byte (R120). -/
theorem fetchOperand_eq (s : State) :
    fetchOperand s = { s with pc := s.pc + 1, accesses := s.accesses ++ [.read s.pc] } := rfl

theorem addrImm_state (s : State) : (addrImm s).state = { s with pc := s.pc + 1 } := rfl

theorem addrZp_state (z : Byte) (s : State) : (addrZp z s).state = fetchOperand s := rfl

theorem addrZpx_state (z : Byte) (s : State) : (addrZpx z s).state = fetchOperand s := rfl

theorem addrZpy_state (z : Byte) (s : State) : (addrZpy z s).state = fetchOperand s := rfl

theorem addrAbs_state (addr : Word) (s : State) :
    (addrAbs addr s).state =
      { s with pc := s.pc + 1 + 1, accesses := s.accesses ++ [.read s.pc, .read (s.pc + 1)] } := by
  simp [addrAbs, fetchOperand_eq]

theorem addrAbx_state (base : Word) (s : State) : (addrAbx base s).state = (addrAbs base s).state := rfl

theorem addrAby_state (base : Word) (s : State) : (addrAby base s).state = (addrAbs base s).state := rfl

theorem addrInd_state (ptr : Word) (s : State) :
    (addrInd ptr s).state =
      { s with
        pc := s.pc + 1 + 1
        accesses := s.accesses ++ [.read s.pc, .read (s.pc + 1), .read ptr, .read (samePageNext ptr)] } := by
  simp [addrInd, addrAbs_state, State.log]

theorem addrIzx_state (z : Byte) (s : State) :
    (addrIzx z s).state =
      { s with
        pc := s.pc + 1
        accesses := s.accesses ++ [.read s.pc, .read (zeroPage (z + s.x)), .read (zeroPage (z + s.x + 1))] } := by
  simp [addrIzx, memRead16Zp_eq, fetchOperand_eq]

theorem addrIzy_state (z : Byte) (s : State) :
    (addrIzy z s).state =
      { s with
        pc := s.pc + 1
        accesses := s.accesses ++ [.read s.pc, .read (zeroPage z), .read (zeroPage (z + 1))] } := by
  simp [addrIzy, indexed, memRead16Zp_eq, fetchOperand_eq]

theorem addrRel_state (off : Byte) (s : State) : (addrRel off s).state = fetchOperand s := rfl

/-- Every resolver leaves the memory, so a read after it sees the memory before it. -/
theorem readAt_value (r : Resolved) : (readAt r).value = r.state.mem.read r.ea := rfl

theorem readAt_crossed (r : Resolved) : (readAt r).crossed = r.crossed := rfl

theorem readAt_state (r : Resolved) :
    (readAt r).state = { r.state with accesses := r.state.accesses ++ [.read r.ea] } := rfl

/-- A store's next state (R113): one write at the effective address. -/
theorem storeTo_eq (r : Resolved) (v : Byte) :
    storeTo r v =
      .next { r.state with
        mem := r.state.mem.write r.ea v
        accesses := r.state.accesses ++ [.write r.ea v]
        status := { pageCrossed := r.crossed, branchTaken := false } } := rfl

/-- A read-modify-write's next state (R113): one read, then one write of the result. -/
theorem readModifyWrite_eq (f : Byte → Byte → Modified) (r : Resolved) :
    readModifyWrite f r =
      .next { r.state with
        p := (f (r.state.mem.read r.ea) r.state.p).p
        mem := r.state.mem.write r.ea (f (r.state.mem.read r.ea) r.state.p).result
        accesses := r.state.accesses ++
          [.read r.ea, .write r.ea (f (r.state.mem.read r.ea) r.state.p).result]
        status := { pageCrossed := r.crossed, branchTaken := false } } := by
  simp [readModifyWrite, readAt, finish, memWrite_eq, State.setP, State.setStatus, State.log]

/-! The frame of every resolver and operand: `PC` past the operand bytes and the port's record, nothing else. -/

/-- A resolver's state is the state before it but for `PC`, advanced by the width, and the port's record (R120). -/
def ResolverFrame (r : Resolved) (s : State) (width : Word) : Prop :=
  r.state = { s with pc := s.pc + width, accesses := r.state.accesses }

/-- The same of an operand (R113). -/
def OperandFrame (o : Operand) (s : State) (width : Word) : Prop :=
  o.state = { s with pc := s.pc + width, accesses := o.state.accesses }

theorem word_add_one_one (a : Word) : a + 1#16 + 1#16 = a + 2#16 := by bv_omega

theorem addrZp_frame (z : Byte) (s : State) : ResolverFrame (addrZp z s) s 1 := rfl
theorem addrZpx_frame (z : Byte) (s : State) : ResolverFrame (addrZpx z s) s 1 := rfl
theorem addrZpy_frame (z : Byte) (s : State) : ResolverFrame (addrZpy z s) s 1 := rfl
theorem addrRel_frame (off : Byte) (s : State) : ResolverFrame (addrRel off s) s 1 := rfl

theorem addrAbs_frame (addr : Word) (s : State) : ResolverFrame (addrAbs addr s) s 2 := by
  simp [ResolverFrame, addrAbs_state, word_add_one_one]

theorem addrAbx_frame (base : Word) (s : State) : ResolverFrame (addrAbx base s) s 2 := addrAbs_frame base s
theorem addrAby_frame (base : Word) (s : State) : ResolverFrame (addrAby base s) s 2 := addrAbs_frame base s

theorem addrInd_frame (ptr : Word) (s : State) : ResolverFrame (addrInd ptr s) s 2 := by
  simp [ResolverFrame, addrInd_state, word_add_one_one]

theorem addrIzx_frame (z : Byte) (s : State) : ResolverFrame (addrIzx z s) s 1 := by
  simp [ResolverFrame, addrIzx_state]

theorem addrIzy_frame (z : Byte) (s : State) : ResolverFrame (addrIzy z s) s 1 := by
  simp [ResolverFrame, addrIzy_state]

/-- The read after a resolver keeps its frame. -/
theorem readAt_frame {r : Resolved} {s : State} {width : Word} (h : ResolverFrame r s width) :
    OperandFrame (readAt r) s width := by
  unfold OperandFrame
  rw [readAt_state, h]

theorem operandImm_frame (v : Byte) (s : State) : OperandFrame (operandImm v s) s 1 := rfl
theorem operandZp_frame (z : Byte) (s : State) : OperandFrame (operandZp z s) s 1 := readAt_frame (addrZp_frame z s)
theorem operandZpx_frame (z : Byte) (s : State) : OperandFrame (operandZpx z s) s 1 := readAt_frame (addrZpx_frame z s)
theorem operandZpy_frame (z : Byte) (s : State) : OperandFrame (operandZpy z s) s 1 := readAt_frame (addrZpy_frame z s)
theorem operandAbs_frame (w : Word) (s : State) : OperandFrame (operandAbs w s) s 2 := readAt_frame (addrAbs_frame w s)
theorem operandAbx_frame (w : Word) (s : State) : OperandFrame (operandAbx w s) s 2 := readAt_frame (addrAbx_frame w s)
theorem operandAby_frame (w : Word) (s : State) : OperandFrame (operandAby w s) s 2 := readAt_frame (addrAby_frame w s)
theorem operandIzx_frame (z : Byte) (s : State) : OperandFrame (operandIzx z s) s 1 := readAt_frame (addrIzx_frame z s)
theorem operandIzy_frame (z : Byte) (s : State) : OperandFrame (operandIzy z s) s 1 := readAt_frame (addrIzy_frame z s)

/-- The read of a resolved operand sees the memory before the instruction (R104, R113). -/
theorem readAt_value_of_frame {r : Resolved} {s : State} {width : Word} (h : ResolverFrame r s width) :
    (readAt r).value = s.mem.read r.ea := by
  rw [readAt_value, h]

end Sys2Proof.Machine
end

