-- ==== Sys2Proof/Laws/Engine.lean ====
section
/-! SUPPORT. What the parts of a step around the behaviour can do (40_engine R100 to R108), once: the interrupt check, the
filling of the trace record, decoding at `PC`, and the host's reset. -/

namespace Sys2Proof.Machine

/-- Decoding looks up the slot of byte 0 (30_encoding R84). -/
theorem decode_cons (op : Byte) (rest : List Byte) :
    decode (op :: rest) = match rom op with
      | none => .error (.unimplemented op)
      | some e => decodeOperands op e.format rest := rfl

/-- An interrupt entry (R280) touches memory, `SP`, `P`, `PC` and the port's record only. -/
theorem interruptSequence_frame (vector : Word) (s : State) :
    interruptSequence vector s =
      { s with
        mem := (interruptSequence vector s).mem, sp := (interruptSequence vector s).sp
        p := (interruptSequence vector s).p, pc := (interruptSequence vector s).pc
        accesses := (interruptSequence vector s).accesses } := by
  simp only [interruptSequence, enterInterrupt_eq]

/-- The interrupt check (R277) touches memory, `SP`, `P`, `PC`, the latches, the port's record and the cycles only. -/
theorem checkInterrupts_frame (s : State) :
    checkInterrupts s =
      { s with
        mem := (checkInterrupts s).mem, sp := (checkInterrupts s).sp, p := (checkInterrupts s).p
        pc := (checkInterrupts s).pc, irq := (checkInterrupts s).irq, nmi := (checkInterrupts s).nmi
        resetLine := (checkInterrupts s).resetLine, accesses := (checkInterrupts s).accesses
        cycles := (checkInterrupts s).cycles } := by
  unfold checkInterrupts
  split
  · simp only [loadVector_eq]
  · split
    · simp only [interruptSequence, enterInterrupt_eq]
    · split
      · simp only [interruptSequence, enterInterrupt_eq]
      · rfl

/-- The filling of the trace record (R102) touches the record and the port's record only. -/
theorem fillRecord_frame (op : Byte) (s : State) :
    fillRecord op s = { s with record := (fillRecord op s).record, accesses := (fillRecord op s).accesses } := by
  unfold fillRecord
  split <;> rfl

/-- There is no record while `TRACE` is false (R20). -/
theorem fillRecord_off (op : Byte) {s : State} (h : s.trace = false) : fillRecord op s = { s with record := none } := by
  unfold fillRecord
  rw [h]
  rfl

/-- The reads that filling the record makes are reads. -/
theorem write_not_mem_traceReads (n : Nat) (a x : Word) (v : Byte) : Access.write x v ∉ traceReads n a := by
  unfold traceReads
  split <;> simp

end Sys2Proof.Machine
end

