-- ==== Sys2Proof/Tests/Slice0.lean ====
section
/-! SUPPORT. The model's own tests. Expected results are the spec's: the vectors of 95_test_vectors (their ids stand in the
comments), the opcode matrix of 30_encoding R86, and the rules named. The start state of a vector is `start`; our unlisted
byte is 0xFF and the vectors' is 0x00, so a test lists the zero bytes it reads. The last part shows for each statement with
hypotheses a state and operands that meet them. -/

open Sys2Proof Sys2Proof.Machine Sys2Proof.Claims

namespace Sys2Proof.Tests

/-- The default start state of the vectors (95_test_vectors Part 2). -/
def start : State := { State.reset with pc := 0x8000 }

/-- Bytes placed in memory. -/
def prog (s : State) (cells : List (Word × List Byte)) : State :=
  s.setMem (cells.foldl (fun m c => Memory.place m c.1 c.2) s.mem)

/-- The bytes written through the port, in order. -/
def written (log : List Access) : List (Word × Byte) :=
  log.filterMap fun e => match e with
    | .read _ => none
    | .write a v => some (a, v)

/-- The step succeeds with these registers, memory writes and cycles. -/
def ends (s : State) (a x y p sp : Byte) (pc : Word) (w : List (Word × Byte)) (cycles : Nat) : Bool :=
  match step s with
  | .next t => (t.a, t.x, t.y, t.p, t.sp, t.pc) == (a, x, y, p, sp, pc) && written t.accesses == w &&
      t.cycles == cycles && t.outcome == .success
  | _ => false

/-- The step ends as UnimplementedOpcode with this byte and leaves this pc, these writes and cycles. -/
def illegal (s : State) (op : Byte) (pc : Word) (w : List (Word × Byte)) (cycles : Nat) : Bool :=
  match step s with
  | .fault (.unimplementedOpcode o t) => o == op && t.pc == pc && written t.accesses == w && t.cycles == cycles &&
      t.outcome == .unimplementedOpcode op
  | _ => false

/-- The step is refused as decimal arithmetic. -/
def refuses (s : State) : Bool :=
  match step s with
  | .refused .decimalArithmetic => true
  | _ => false

/-- The step answers a next state with this property. -/
def nextIs (s : State) (f : State → Bool) : Bool :=
  match step s with
  | .next t => f t
  | _ => false

/-- The behaviour answers a next state with this property. -/
def execIs (i : Instr) (s : State) (f : State → Bool) : Bool :=
  match exec i s with
  | .next t => f t
  | _ => false

/-- The bytes decode to this instruction and nothing is left. -/
def reads (bytes : List Byte) (i : Instr) : Bool := decode bytes == .ok i []

/-! WellFormed: an ill-formed byte string for each check is refused -/

/-- There is no byte 0 (R80). -/
theorem test_wf_empty : wfBytes [] = false := by decide
/-- 0x02 is one of the 105 illegal values (R88). -/
theorem test_wf_illegal : wfBytes [0x02] = false := by decide
/-- The 65C02's BIT immediate 0x89 is illegal too (R88, V-EX4). -/
theorem test_wf_illegal_two_bytes : wfBytes [0x89, 0x00] = false := by decide
/-- LDA absolute is three bytes (R84): two are too few. -/
theorem test_wf_short : wfBytes [0xAD, 0x34] = false := by decide
/-- NOP is one byte (R84): two are too many. -/
theorem test_wf_long : wfBytes [0xEA, 0x00] = false := by decide
/-- Instructions of each of the three formats pass (R81). -/
theorem test_wf_accepts : (wfBytes [0xEA] && wfBytes [0xA9, 0x42] && wfBytes [0xAD, 0x34, 0x12]) = true := by decide

/-! Memory's canonical form -/

/-- Writing the unlisted byte removes the entry; entries stay sorted (log entry 2). -/
theorem test_memory_canonical :
    ((Memory.write [] 0x20 0x01).write 0x10 0x02).write 0x20 0xFF = ([(0x10, 0x02)] : Memory) := by decide
/-- A list that is not sorted, or lists the unlisted byte, or leaves the address space, is not in the form. -/
theorem test_memory_not_wf :
    (Memory.wf [(2, 0), (1, 0)] || Memory.wf [(1, 0xFF)] || Memory.wf [(65536, 0)] || Memory.wf [(1, 0), (1, 0)]) = false := by
  decide

/-! Decoding: one word per constructor, opcode and byte order as the rule of each instruction gives them -/

/-- 43_load_store R160 to R162. -/
theorem test_decode_loads :
    (reads [0xA1, 0x8F] (.ldaIzx 0x8F) && reads [0xA5, 0x8F] (.ldaZp 0x8F) &&
     reads [0xA9, 0x8F] (.ldaImm 0x8F) && reads [0xAD, 0x34, 0x12] (.ldaAbs 0x1234) &&
     reads [0xB1, 0x8F] (.ldaIzy 0x8F) && reads [0xB5, 0x8F] (.ldaZpx 0x8F) &&
     reads [0xB9, 0x34, 0x12] (.ldaAby 0x1234) && reads [0xBD, 0x34, 0x12] (.ldaAbx 0x1234) &&
     reads [0xA2, 0x8F] (.ldxImm 0x8F) && reads [0xA6, 0x8F] (.ldxZp 0x8F) &&
     reads [0xAE, 0x34, 0x12] (.ldxAbs 0x1234) && reads [0xB6, 0x8F] (.ldxZpy 0x8F) &&
     reads [0xBE, 0x34, 0x12] (.ldxAby 0x1234) && reads [0xA0, 0x8F] (.ldyImm 0x8F) &&
     reads [0xA4, 0x8F] (.ldyZp 0x8F) && reads [0xAC, 0x34, 0x12] (.ldyAbs 0x1234) &&
     reads [0xB4, 0x8F] (.ldyZpx 0x8F) && reads [0xBC, 0x34, 0x12] (.ldyAbx 0x1234)) = true := by decide

/-- 43_load_store R163 to R165. -/
theorem test_decode_stores :
    (reads [0x81, 0x8F] (.staIzx 0x8F) && reads [0x85, 0x8F] (.staZp 0x8F) &&
     reads [0x8D, 0x34, 0x12] (.staAbs 0x1234) && reads [0x91, 0x8F] (.staIzy 0x8F) &&
     reads [0x95, 0x8F] (.staZpx 0x8F) && reads [0x99, 0x34, 0x12] (.staAby 0x1234) &&
     reads [0x9D, 0x34, 0x12] (.staAbx 0x1234) && reads [0x86, 0x8F] (.stxZp 0x8F) &&
     reads [0x8E, 0x34, 0x12] (.stxAbs 0x1234) && reads [0x96, 0x8F] (.stxZpy 0x8F) &&
     reads [0x84, 0x8F] (.styZp 0x8F) && reads [0x8C, 0x34, 0x12] (.styAbs 0x1234) &&
     reads [0x94, 0x8F] (.styZpx 0x8F)) = true := by decide

/-- 44_transfer_stack R170 to R185. -/
theorem test_decode_transfers_and_stack :
    (reads [0x48] .pha && reads [0x08] .php &&
     reads [0x68] .pla && reads [0x28] .plp &&
     reads [0xAA] .tax && reads [0xA8] .tay &&
     reads [0xBA] .tsx && reads [0x8A] .txa &&
     reads [0x9A] .txs && reads [0x98] .tya) = true := by decide

/-- 45_arithmetic R190, R192. -/
theorem test_decode_add_and_subtract :
    (reads [0x61, 0x8F] (.adcIzx 0x8F) && reads [0x65, 0x8F] (.adcZp 0x8F) &&
     reads [0x69, 0x8F] (.adcImm 0x8F) && reads [0x6D, 0x34, 0x12] (.adcAbs 0x1234) &&
     reads [0x71, 0x8F] (.adcIzy 0x8F) && reads [0x75, 0x8F] (.adcZpx 0x8F) &&
     reads [0x79, 0x34, 0x12] (.adcAby 0x1234) && reads [0x7D, 0x34, 0x12] (.adcAbx 0x1234) &&
     reads [0xE1, 0x8F] (.sbcIzx 0x8F) && reads [0xE5, 0x8F] (.sbcZp 0x8F) &&
     reads [0xE9, 0x8F] (.sbcImm 0x8F) && reads [0xED, 0x34, 0x12] (.sbcAbs 0x1234) &&
     reads [0xF1, 0x8F] (.sbcIzy 0x8F) && reads [0xF5, 0x8F] (.sbcZpx 0x8F) &&
     reads [0xF9, 0x34, 0x12] (.sbcAby 0x1234) && reads [0xFD, 0x34, 0x12] (.sbcAbx 0x1234)) = true := by decide

/-- 45_arithmetic R193 to R195. -/
theorem test_decode_compares :
    (reads [0xC1, 0x8F] (.cmpIzx 0x8F) && reads [0xC5, 0x8F] (.cmpZp 0x8F) &&
     reads [0xC9, 0x8F] (.cmpImm 0x8F) && reads [0xCD, 0x34, 0x12] (.cmpAbs 0x1234) &&
     reads [0xD1, 0x8F] (.cmpIzy 0x8F) && reads [0xD5, 0x8F] (.cmpZpx 0x8F) &&
     reads [0xD9, 0x34, 0x12] (.cmpAby 0x1234) && reads [0xDD, 0x34, 0x12] (.cmpAbx 0x1234) &&
     reads [0xE0, 0x8F] (.cpxImm 0x8F) && reads [0xE4, 0x8F] (.cpxZp 0x8F) &&
     reads [0xEC, 0x34, 0x12] (.cpxAbs 0x1234) && reads [0xC0, 0x8F] (.cpyImm 0x8F) &&
     reads [0xC4, 0x8F] (.cpyZp 0x8F) && reads [0xCC, 0x34, 0x12] (.cpyAbs 0x1234)) = true := by decide

/-- 45_arithmetic R196 to R201. -/
theorem test_decode_increments :
    (reads [0xC6, 0x8F] (.decZp 0x8F) && reads [0xCE, 0x34, 0x12] (.decAbs 0x1234) &&
     reads [0xD6, 0x8F] (.decZpx 0x8F) && reads [0xDE, 0x34, 0x12] (.decAbx 0x1234) &&
     reads [0xCA] .dex && reads [0x88] .dey &&
     reads [0xE6, 0x8F] (.incZp 0x8F) && reads [0xEE, 0x34, 0x12] (.incAbs 0x1234) &&
     reads [0xF6, 0x8F] (.incZpx 0x8F) && reads [0xFE, 0x34, 0x12] (.incAbx 0x1234) &&
     reads [0xE8] .inx && reads [0xC8] .iny) = true := by decide

/-- 46_logic_shift R210 to R213. -/
theorem test_decode_logic :
    (reads [0x21, 0x8F] (.andIzx 0x8F) && reads [0x25, 0x8F] (.andZp 0x8F) &&
     reads [0x29, 0x8F] (.andImm 0x8F) && reads [0x2D, 0x34, 0x12] (.andAbs 0x1234) &&
     reads [0x31, 0x8F] (.andIzy 0x8F) && reads [0x35, 0x8F] (.andZpx 0x8F) &&
     reads [0x39, 0x34, 0x12] (.andAby 0x1234) && reads [0x3D, 0x34, 0x12] (.andAbx 0x1234) &&
     reads [0x24, 0x8F] (.bitZp 0x8F) && reads [0x2C, 0x34, 0x12] (.bitAbs 0x1234) &&
     reads [0x41, 0x8F] (.eorIzx 0x8F) && reads [0x45, 0x8F] (.eorZp 0x8F) &&
     reads [0x49, 0x8F] (.eorImm 0x8F) && reads [0x4D, 0x34, 0x12] (.eorAbs 0x1234) &&
     reads [0x51, 0x8F] (.eorIzy 0x8F) && reads [0x55, 0x8F] (.eorZpx 0x8F) &&
     reads [0x59, 0x34, 0x12] (.eorAby 0x1234) && reads [0x5D, 0x34, 0x12] (.eorAbx 0x1234) &&
     reads [0x01, 0x8F] (.oraIzx 0x8F) && reads [0x05, 0x8F] (.oraZp 0x8F) &&
     reads [0x09, 0x8F] (.oraImm 0x8F) && reads [0x0D, 0x34, 0x12] (.oraAbs 0x1234) &&
     reads [0x11, 0x8F] (.oraIzy 0x8F) && reads [0x15, 0x8F] (.oraZpx 0x8F) &&
     reads [0x19, 0x34, 0x12] (.oraAby 0x1234) && reads [0x1D, 0x34, 0x12] (.oraAbx 0x1234)) = true := by decide

/-- 46_logic_shift R214 to R217. -/
theorem test_decode_shifts :
    (reads [0x06, 0x8F] (.aslZp 0x8F) && reads [0x0A] .aslAcc &&
     reads [0x0E, 0x34, 0x12] (.aslAbs 0x1234) && reads [0x16, 0x8F] (.aslZpx 0x8F) &&
     reads [0x1E, 0x34, 0x12] (.aslAbx 0x1234) && reads [0x46, 0x8F] (.lsrZp 0x8F) &&
     reads [0x4A] .lsrAcc && reads [0x4E, 0x34, 0x12] (.lsrAbs 0x1234) &&
     reads [0x56, 0x8F] (.lsrZpx 0x8F) && reads [0x5E, 0x34, 0x12] (.lsrAbx 0x1234) &&
     reads [0x26, 0x8F] (.rolZp 0x8F) && reads [0x2A] .rolAcc &&
     reads [0x2E, 0x34, 0x12] (.rolAbs 0x1234) && reads [0x36, 0x8F] (.rolZpx 0x8F) &&
     reads [0x3E, 0x34, 0x12] (.rolAbx 0x1234) && reads [0x66, 0x8F] (.rorZp 0x8F) &&
     reads [0x6A] .rorAcc && reads [0x6E, 0x34, 0x12] (.rorAbs 0x1234) &&
     reads [0x76, 0x8F] (.rorZpx 0x8F) && reads [0x7E, 0x34, 0x12] (.rorAbx 0x1234)) = true := by decide

/-- 47_control R230 to R241. -/
theorem test_decode_control :
    (reads [0x90, 0x8F] (.bcc 0x8F) && reads [0xB0, 0x8F] (.bcs 0x8F) &&
     reads [0xF0, 0x8F] (.beq 0x8F) && reads [0x30, 0x8F] (.bmi 0x8F) &&
     reads [0xD0, 0x8F] (.bne 0x8F) && reads [0x10, 0x8F] (.bpl 0x8F) &&
     reads [0x50, 0x8F] (.bvc 0x8F) && reads [0x70, 0x8F] (.bvs 0x8F) &&
     reads [0x4C, 0x34, 0x12] (.jmpAbs 0x1234) && reads [0x6C, 0x34, 0x12] (.jmpInd 0x1234) &&
     reads [0x20, 0x34, 0x12] (.jsr 0x1234) && reads [0x60] .rts) = true := by decide

/-- 48_system R250 to R260. -/
theorem test_decode_system :
    (reads [0x00] .brk && reads [0x18] .clc &&
     reads [0xD8] .cld && reads [0x58] .cli &&
     reads [0xB8] .clv && reads [0xEA] .nop &&
     reads [0x40] .rti && reads [0x38] .sec &&
     reads [0xF8] .sed && reads [0x78] .sei) = true := by decide

/-- What is refused, by name: no byte 0, an illegal byte 0, a missing operand byte (R80, R84, R88). -/
theorem test_decode_refused :
    decode [] = .error .empty ∧ decode [0x02, 0x00] = .error (.unimplemented 0x02) ∧
      decode [0xA9] = .error (.truncated 0xA9) ∧ decode [0xAD, 0x34] = .error (.truncated 0xAD) := by decide

/-- Words as the opcode table numbers them: bit 0 is the least significant bit of the first byte. -/
theorem test_decode_table_word :
    decodeTableWord 8 0xEA = some .nop ∧ decodeTableWord 16 0x42A9 = some (.ldaImm 0x42) ∧
      decodeTableWord 24 0x1234AD = some (.ldaAbs 0x1234) ∧ decodeTableWord 8 0x02 = none := by decide

/-! One step each: the vectors of 95_test_vectors, at most two for an instruction -/

/-- V-SY1: BRK, strict mode off: outcome Success. -/
theorem test_brk_sy1 :
    ends (prog start [(0x8000, [0x00]), (0xfffe, [0x00, 0x90])])
      0x00 0x00 0x00 0x24 0xFA 0x9000 [(0x01FD, 0x80), (0x01FC, 0x02), (0x01FB, 0x34)] 7 = true := by decide

/-- V-SY3: BRK with I = 0, flags set: pushes 0xF3, sets I only. -/
theorem test_brk_sy3 :
    ends (prog ({ start with p := 0xE3 }) [(0x8000, [0x00]), (0xfffe, [0x00, 0x90])])
      0x00 0x00 0x00 0xE7 0xFA 0x9000 [(0x01FD, 0x80), (0x01FC, 0x02), (0x01FB, 0xF3)] 7 = true := by decide

/-- V-LG10: ASL zp: carry-in ignored, C cleared. -/
theorem test_aslZp_lg10 :
    ends (prog ({ start with p := 0x25 }) [(0x8000, [0x06, 0x10]), (0x10, [0x40])])
      0x00 0x00 0x00 0xA4 0xFD 0x8002 [(0x0010, 0x80)] 5 = true := by decide

/-- V-TS9: PHP pushes P with bits 4 and 5 set: 0x65 -> 0x75; P unchanged. -/
theorem test_php_ts9 :
    ends (prog ({ start with p := 0x65 }) [(0x8000, [0x08])])
      0x00 0x00 0x00 0x65 0xFC 0x8001 [(0x01FD, 0x75)] 3 = true := by decide

/-- V-LG3: ORA. -/
theorem test_oraImm_lg3 :
    ends (prog ({ start with a := 0x0F }) [(0x8000, [0x09, 0x80])])
      0x8F 0x00 0x00 0xA4 0xFD 0x8002 [] 2 = true := by decide

/-- V-LG8: ASL A. -/
theorem test_aslAcc_lg8 :
    ends (prog ({ start with a := 0x81 }) [(0x8000, [0x0A])])
      0x02 0x00 0x00 0x25 0xFD 0x8001 [] 2 = true := by decide

/-- V-LG9: ASL A 0x80: zero with carry. -/
theorem test_aslAcc_lg9 :
    ends (prog ({ start with a := 0x80 }) [(0x8000, [0x0A])])
      0x00 0x00 0x00 0x27 0xFD 0x8001 [] 2 = true := by decide

/-- V-CT13: BPL backward across a page: 4 cycles. -/
theorem test_bpl_ct13 :
    ends (prog start [(0x8000, [0x10, 0x80])])
      0x00 0x00 0x00 0x24 0xFD 0x7F82 [] 4 = true := by decide

/-- V-SY8: CLC. -/
theorem test_clc_sy8 :
    ends (prog ({ start with p := 0x25 }) [(0x8000, [0x18])])
      0x00 0x00 0x00 0x24 0xFD 0x8001 [] 2 = true := by decide

/-- V-CT3: JSR pushes 0x8002, high byte first. -/
theorem test_jsr_ct3 :
    ends (prog start [(0x8000, [0x20, 0x34, 0x12])])
      0x00 0x00 0x00 0x24 0xFB 0x1234 [(0x01FD, 0x80), (0x01FC, 0x02)] 6 = true := by decide

/-- V-CT4: JSR at SP = 0x00: high at 0x0100, low at 0x01FF. -/
theorem test_jsr_ct4 :
    ends (prog ({ start with sp := 0x00 }) [(0x8000, [0x20, 0x34, 0x12])])
      0x00 0x00 0x00 0x24 0xFE 0x1234 [(0x0100, 0x80), (0x01FF, 0x02)] 6 = true := by decide

/-- V-LG6: BIT: Z from A & M, N and V from M. -/
theorem test_bitZp_lg6 :
    ends (prog ({ start with a := 0x01 }) [(0x8000, [0x24, 0x10]), (0x10, [0xC0])])
      0x01 0x00 0x00 0xE6 0xFD 0x8002 [] 3 = true := by decide

/-- V-TS12: PLP of 0xFF: B dropped, P = 0xEF. -/
theorem test_plp_ts12 :
    ends (prog ({ start with sp := 0xFC }) [(0x8000, [0x28]), (0x1fd, [0xFF])])
      0x00 0x00 0x00 0xEF 0xFD 0x8001 [] 4 = true := by decide

/-- V-TS13: PLP of 0x00: U forced, P = 0x20 (I cleared). -/
theorem test_plp_ts13 :
    ends (prog ({ start with sp := 0xFC }) [(0x8000, [0x28]), (0x1fd, [0x00])])
      0x00 0x00 0x00 0x20 0xFD 0x8001 [] 4 = true := by decide

/-- V-LG1: AND. -/
theorem test_andImm_lg1 :
    ends (prog ({ start with a := 0xF0 }) [(0x8000, [0x29, 0x3C])])
      0x30 0x00 0x00 0x24 0xFD 0x8002 [] 2 = true := by decide

/-- V-LG2: AND giving zero. -/
theorem test_andImm_lg2 :
    ends (prog ({ start with a := 0xF0 }) [(0x8000, [0x29, 0x0F])])
      0x00 0x00 0x00 0x26 0xFD 0x8002 [] 2 = true := by decide

/-- V-LG13: ROL A with carry-in. -/
theorem test_rolAcc_lg13 :
    ends (prog ({ start with a := 0x40, p := 0x25 }) [(0x8000, [0x2A])])
      0x81 0x00 0x00 0xA4 0xFD 0x8001 [] 2 = true := by decide

/-- V-LG14: ROL A 0x80, C = 0: zero, carry out. -/
theorem test_rolAcc_lg14 :
    ends (prog ({ start with a := 0x80 }) [(0x8000, [0x2A])])
      0x00 0x00 0x00 0x27 0xFD 0x8001 [] 2 = true := by decide

/-- V-LG7: BIT abs: clears N and V, Z clear. -/
theorem test_bitAbs_lg7 :
    ends (prog ({ start with a := 0xFF, p := 0xE4 }) [(0x8000, [0x2C, 0x00, 0x02]), (0x200, [0x3F])])
      0xFF 0x00 0x00 0x24 0xFD 0x8003 [] 4 = true := by decide

/-- V-CT11: BMI not taken. -/
theorem test_bmi_ct11 :
    ends (prog start [(0x8000, [0x30, 0x10])])
      0x00 0x00 0x00 0x24 0xFD 0x8002 [] 2 = true := by decide

/-- V-SY9: SEC. -/
theorem test_sec_sy9 :
    ends (prog start [(0x8000, [0x38])])
      0x00 0x00 0x00 0x25 0xFD 0x8001 [] 2 = true := by decide

/-- V-LG15: ROL abs,X crossed: 7 cycles. -/
theorem test_rolAbx_lg15 :
    ends (prog ({ start with x := 0x80, p := 0x25 }) [(0x8000, [0x3E, 0x80, 0x20]), (0x2100, [0x01])])
      0x00 0x80 0x00 0x24 0xFD 0x8003 [(0x2100, 0x03)] 7 = true := by decide

/-- V-SY5: RTI after V-SY1: P = 0x24, PC = 0x8002 (no +1). -/
theorem test_rti_sy5 :
    ends (prog ({ start with sp := 0xFA, pc := 0x9000 }) [(0x9000, [0x40]), (0x1fb, [0x34, 0x02, 0x80])])
      0x00 0x00 0x00 0x24 0xFD 0x8002 [] 6 = true := by decide

/-- V-SY6: RTI pulling 0xFF: P = 0xEF. -/
theorem test_rti_sy6 :
    ends (prog ({ start with sp := 0xFA, pc := 0x9000 }) [(0x9000, [0x40]), (0x1fb, [0xFF, 0xCD, 0xAB])])
      0x00 0x00 0x00 0xEF 0xFD 0xABCD [] 6 = true := by decide

/-- V-LG12: LSR zp: N always cleared. -/
theorem test_lsrZp_lg12 :
    ends (prog ({ start with p := 0xA4 }) [(0x8000, [0x46, 0x10]), (0x10, [0x03])])
      0x00 0x00 0x00 0x25 0xFD 0x8002 [(0x0010, 0x01)] 5 = true := by decide

/-- V-TS7: PHA. -/
theorem test_pha_ts7 :
    ends (prog ({ start with a := 0x42 }) [(0x8000, [0x48])])
      0x42 0x00 0x00 0x24 0xFC 0x8001 [(0x01FD, 0x42)] 3 = true := by decide

/-- V-TS8: PHA at SP = 0x00: writes 0x0100, SP wraps to 0xFF. -/
theorem test_pha_ts8 :
    ends (prog ({ start with a := 0x43, sp := 0x00 }) [(0x8000, [0x48])])
      0x43 0x00 0x00 0x24 0xFF 0x8001 [(0x0100, 0x43)] 3 = true := by decide

/-- V-LG4: EOR with 0xFF complements. -/
theorem test_eorImm_lg4 :
    ends (prog ({ start with a := 0xAA }) [(0x8000, [0x49, 0xFF])])
      0x55 0x00 0x00 0x24 0xFD 0x8002 [] 2 = true := by decide

/-- V-LG5: EOR with itself: zero. -/
theorem test_eorImm_lg5 :
    ends (prog ({ start with a := 0xAA }) [(0x8000, [0x49, 0xAA])])
      0x00 0x00 0x00 0x26 0xFD 0x8002 [] 2 = true := by decide

/-- V-LG11: LSR A 0x01: zero with carry. -/
theorem test_lsrAcc_lg11 :
    ends (prog ({ start with a := 0x01 }) [(0x8000, [0x4A])])
      0x00 0x00 0x00 0x27 0xFD 0x8001 [] 2 = true := by decide

/-- V-CT1: JMP abs. -/
theorem test_jmpAbs_ct1 :
    ends (prog start [(0x8000, [0x4C, 0x00, 0x90])])
      0x00 0x00 0x00 0x24 0xFD 0x9000 [] 3 = true := by decide

/-- V-CT2: JMP to itself: legal, a loop. -/
theorem test_jmpAbs_ct2 :
    ends (prog start [(0x8000, [0x4C, 0x00, 0x80])])
      0x00 0x00 0x00 0x24 0xFD 0x8000 [] 3 = true := by decide

/-- V-CT14: BVC not taken. -/
theorem test_bvc_ct14 :
    ends (prog ({ start with p := 0x64 }) [(0x8000, [0x50, 0x02])])
      0x00 0x00 0x00 0x64 0xFD 0x8002 [] 2 = true := by decide

/-- V-SY10: CLI. -/
theorem test_cli_sy10 :
    ends (prog start [(0x8000, [0x58])])
      0x00 0x00 0x00 0x20 0xFD 0x8001 [] 2 = true := by decide

/-- V-CT5: RTS: pulled word + 1. -/
theorem test_rts_ct5 :
    ends (prog ({ start with sp := 0xFB, pc := 0x1234 }) [(0x1234, [0x60]), (0x1fc, [0x02, 0x80])])
      0x00 0x00 0x00 0x24 0xFD 0x8003 [] 6 = true := by decide

/-- V-CT6: RTS with 0xFFFF on the stack: PC = 0x0000. -/
theorem test_rts_ct6 :
    ends (prog ({ start with sp := 0xFB, pc := 0x1234 }) [(0x1234, [0x60]), (0x1fc, [0xFF, 0xFF])])
      0x00 0x00 0x00 0x24 0xFD 0x0000 [] 6 = true := by decide

/-- V-LG18: ROR zp 0x01, C = 0: zero, carry out. -/
theorem test_rorZp_lg18 :
    ends (prog start [(0x8000, [0x66, 0x10]), (0x10, [0x01])])
      0x00 0x00 0x00 0x27 0xFD 0x8002 [(0x0010, 0x00)] 5 = true := by decide

/-- V-TS10: PLA of zero sets Z. -/
theorem test_pla_ts10 :
    ends (prog ({ start with a := 0x11, sp := 0xFC }) [(0x8000, [0x68]), (0x1fd, [0x00])])
      0x00 0x00 0x00 0x26 0xFD 0x8001 [] 4 = true := by decide

/-- V-TS11: PLA at SP = 0xFF: reads 0x0100, SP wraps to 0x00. -/
theorem test_pla_ts11 :
    ends (prog ({ start with sp := 0xFF }) [(0x8000, [0x68]), (0x100, [0x99]), (0x200, [0x55])])
      0x99 0x00 0x00 0xA4 0x00 0x8001 [] 4 = true := by decide

/-- V-AR2: carry-in counts: 0xFF + 0 + 1 = 0x100. -/
theorem test_adcImm_ar2 :
    ends (prog ({ start with a := 0xFF, p := 0x25 }) [(0x8000, [0x69, 0x00])])
      0x00 0x00 0x00 0x27 0xFD 0x8002 [] 2 = true := by decide

/-- V-AR4: 0x80 + 0xFF: V and C set. -/
theorem test_adcImm_ar4 :
    ends (prog ({ start with a := 0x80 }) [(0x8000, [0x69, 0xFF])])
      0x7F 0x00 0x00 0x65 0xFD 0x8002 [] 2 = true := by decide

/-- V-LG16: ROR A with carry-in: 0x80, carry out. -/
theorem test_rorAcc_lg16 :
    ends (prog ({ start with a := 0x01, p := 0x25 }) [(0x8000, [0x6A])])
      0x80 0x00 0x00 0xA5 0xFD 0x8001 [] 2 = true := by decide

/-- V-LG17: ROR A 0 with C = 1: 0x80, C = 0. -/
theorem test_rorAcc_lg17 :
    ends (prog ({ start with a := 0x00, p := 0x25 }) [(0x8000, [0x6A])])
      0x80 0x00 0x00 0xA4 0xFD 0x8001 [] 2 = true := by decide

/-- V-AD10: IND, pointer not at a page end. -/
theorem test_jmpInd_ad10 :
    ends (prog start [(0x8000, [0x6C, 0x00, 0x30]), (0x3000, [0x34, 0x12])])
      0x00 0x00 0x00 0x24 0xFD 0x1234 [] 5 = true := by decide

/-- V-AD11: IND, pointer at 0x30FF: high byte from 0x3000, not 0x3100. -/
theorem test_jmpInd_ad11 :
    ends (prog start [(0x8000, [0x6C, 0xFF, 0x30]), (0x30ff, [0x34]), (0x3000, [0x12]), (0x3100, [0x99])])
      0x00 0x00 0x00 0x24 0xFD 0x1234 [] 5 = true := by decide

/-- V-CT15: BVS taken. -/
theorem test_bvs_ct15 :
    ends (prog ({ start with p := 0x64 }) [(0x8000, [0x70, 0x02])])
      0x00 0x00 0x00 0x64 0xFD 0x8004 [] 3 = true := by decide

/-- V-AR6: ADC (zp),Y crossed: 6 cycles. -/
theorem test_adcIzy_ar6 :
    ends (prog ({ start with a := 0x01, y := 0xFF }) [(0x8000, [0x71, 0x40]), (0x40, [0x01, 0x40]), (0x4100, [0x02])])
      0x03 0x00 0xFF 0x24 0xFD 0x8002 [] 6 = true := by decide

/-- V-SY11: SEI. -/
theorem test_sei_sy11 :
    ends (prog ({ start with p := 0x20 }) [(0x8000, [0x78])])
      0x00 0x00 0x00 0x24 0xFD 0x8001 [] 2 = true := by decide

/-- V-LS10: STA (zp,X): 6 cycles. -/
theorem test_staIzx_ls10 :
    ends (prog ({ start with a := 0xC3, x := 0x04 }) [(0x8000, [0x81, 0x20]), (0x24, [0x00, 0x40])])
      0xC3 0x04 0x00 0x24 0xFD 0x8002 [(0x4000, 0xC3)] 6 = true := by decide

/-- V-LS7: STA zp: no flag changes even when storing 0. -/
theorem test_staZp_ls7 :
    ends (prog ({ start with a := 0x00, p := 0xA4 }) [(0x8000, [0x85, 0x10])])
      0x00 0x00 0x00 0xA4 0xFD 0x8002 [(0x0010, 0x00)] 3 = true := by decide

/-- V-AR27: DEY to 0: Z. -/
theorem test_dey_ar27 :
    ends (prog ({ start with y := 0x01 }) [(0x8000, [0x88])])
      0x00 0x00 0x00 0x26 0xFD 0x8001 [] 2 = true := by decide

/-- V-TS3: TXA clears N. -/
theorem test_txa_ts3 :
    ends (prog ({ start with a := 0xFF, x := 0x7F, p := 0xA4 }) [(0x8000, [0x8A])])
      0x7F 0x7F 0x00 0x24 0xFD 0x8001 [] 2 = true := by decide

/-- V-LS9: STY abs. -/
theorem test_styAbs_ls9 :
    ends (prog ({ start with y := 0x7E }) [(0x8000, [0x8C, 0x00, 0x02])])
      0x00 0x00 0x7E 0x24 0xFD 0x8003 [(0x0200, 0x7E)] 4 = true := by decide

/-- V-CT7: BCC taken, same page: 3 cycles. -/
theorem test_bcc_ct7 :
    ends (prog start [(0x8000, [0x90, 0x04])])
      0x00 0x00 0x00 0x24 0xFD 0x8006 [] 3 = true := by decide

/-- V-CT8: BCC not taken: 2 cycles. -/
theorem test_bcc_ct8 :
    ends (prog ({ start with p := 0x25 }) [(0x8000, [0x90, 0x04])])
      0x00 0x00 0x00 0x25 0xFD 0x8002 [] 2 = true := by decide

/-- V-LS11: STA (zp),Y crossed: 6 cycles either way. -/
theorem test_staIzy_ls11 :
    ends (prog ({ start with a := 0xC4, y := 0xFF }) [(0x8000, [0x91, 0x40]), (0x40, [0x01, 0x40])])
      0xC4 0x00 0xFF 0x24 0xFD 0x8002 [(0x4100, 0xC4)] 6 = true := by decide

/-- V-LS8: STX zp,Y wraps to 0x0000. -/
theorem test_stxZpy_ls8 :
    ends (prog ({ start with x := 0x9A, y := 0x01 }) [(0x8000, [0x96, 0xFF])])
      0x00 0x9A 0x01 0x24 0xFD 0x8002 [(0x0000, 0x9A)] 4 = true := by decide

/-- V-TS4: TYA. -/
theorem test_tya_ts4 :
    ends (prog ({ start with y := 0xFF }) [(0x8000, [0x98])])
      0xFF 0x00 0xFF 0xA4 0xFD 0x8001 [] 2 = true := by decide

/-- V-LS12: STA abs,Y: 5 cycles. -/
theorem test_staAby_ls12 :
    ends (prog ({ start with a := 0xC5, y := 0x02 }) [(0x8000, [0x99, 0x00, 0x03])])
      0xC5 0x00 0x02 0x24 0xFD 0x8003 [(0x0302, 0xC5)] 5 = true := by decide

/-- V-TS6: TXS with X = 0: SP = 0, P unchanged (Z not set). -/
theorem test_txs_ts6 :
    ends (prog ({ start with x := 0x00 }) [(0x8000, [0x9A])])
      0x00 0x00 0x00 0x24 0x00 0x8001 [] 2 = true := by decide

/-- V-AD9: store ABX across a page: 5 cycles either way, no read of ea. -/
theorem test_staAbx_ad9 :
    ends (prog ({ start with a := 0xAB, x := 0xFF }) [(0x8000, [0x9D, 0x01, 0x20])])
      0xAB 0xFF 0x00 0x24 0xFD 0x8003 [(0x2100, 0xAB)] 5 = true := by decide

/-- V-LS4: LDY # zero. -/
theorem test_ldyImm_ls4 :
    ends (prog ({ start with y := 0x01 }) [(0x8000, [0xA0, 0x00])])
      0x00 0x00 0x00 0x26 0xFD 0x8002 [] 2 = true := by decide

/-- V-AD12: IZX: pointer at (0x20+4) = 0x24. -/
theorem test_ldaIzx_ad12 :
    ends (prog ({ start with x := 0x04 }) [(0x8000, [0xA1, 0x20]), (0x24, [0x00, 0x40]), (0x4000, [0x5A])])
      0x5A 0x04 0x00 0x24 0xFD 0x8002 [] 6 = true := by decide

/-- V-AD13: IZX, pointer at 0xFF: high byte from 0x0000, not 0x0100. -/
theorem test_ldaIzx_ad13 :
    ends (prog ({ start with x := 0x01 }) [(0x8000, [0xA1, 0xFE]), (0xff, [0x00]), (0x0, [0x40]), (0x100, [0x99]), (0x4000, [0x5B])])
      0x5B 0x01 0x00 0x24 0xFD 0x8002 [] 6 = true := by decide

/-- V-LS3: LDX #. -/
theorem test_ldxImm_ls3 :
    ends (prog start [(0x8000, [0xA2, 0xFF])])
      0x00 0xFF 0x00 0xA4 0xFD 0x8002 [] 2 = true := by decide

/-- V-AD2: ZP: ea = 0x0010. -/
theorem test_ldaZp_ad2 :
    ends (prog start [(0x8000, [0xA5, 0x10]), (0x10, [0x80])])
      0x80 0x00 0x00 0xA4 0xFD 0x8002 [] 3 = true := by decide

/-- V-TS2: TAY sets Z. -/
theorem test_tay_ts2 :
    ends (prog ({ start with a := 0x00, y := 0x55 }) [(0x8000, [0xA8])])
      0x00 0x00 0x00 0x26 0xFD 0x8001 [] 2 = true := by decide

/-- V-AD16: opcode at 0xFFFF: operand read from 0x0000, PC wraps to 0x0001. -/
theorem test_ldaImm_ad16 :
    ends (prog ({ start with pc := 0xffff }) [(0xffff, [0xA9, 0x42])])
      0x42 0x00 0x00 0x24 0xFD 0x0001 [] 2 = true := by decide

/-- V-LS2: load of 0x80 sets N, clears Z; C untouched. -/
theorem test_ldaImm_ls2 :
    ends (prog ({ start with p := 0x27 }) [(0x8000, [0xA9, 0x80])])
      0x80 0x00 0x00 0xA5 0xFD 0x8002 [] 2 = true := by decide

/-- V-TS1: TAX sets N. -/
theorem test_tax_ts1 :
    ends (prog ({ start with a := 0x80 }) [(0x8000, [0xAA])])
      0x80 0x80 0x00 0xA4 0xFD 0x8001 [] 2 = true := by decide

/-- V-AD5: ABS: low byte first; 4 cycles (source §8). -/
theorem test_ldaAbs_ad5 :
    ends (prog start [(0x8000, [0xAD, 0x34, 0x12]), (0x1234, [0x5A])])
      0x5A 0x00 0x00 0x24 0xFD 0x8003 [] 4 = true := by decide

/-- V-CT9: BCS to itself. -/
theorem test_bcs_ct9 :
    ends (prog ({ start with p := 0x25 }) [(0x8000, [0xB0, 0xFE])])
      0x00 0x00 0x00 0x25 0xFD 0x8000 [] 3 = true := by decide

/-- V-AD14: IZY, same page: 5 cycles. -/
theorem test_ldaIzy_ad14 :
    ends (prog ({ start with y := 0x01 }) [(0x8000, [0xB1, 0x40]), (0x40, [0x00, 0x40]), (0x4001, [0x5C])])
      0x5C 0x00 0x01 0x24 0xFD 0x8002 [] 5 = true := by decide

/-- V-AD15: IZY, pointer at 0xFF wraps, base 0x12F8 + 0x10 = 0x1308 crossed: 6 cycles. -/
theorem test_ldaIzy_ad15 :
    ends (prog ({ start with y := 0x10 }) [(0x8000, [0xB1, 0xFF]), (0xff, [0xF8]), (0x0, [0x12]), (0x1308, [0x5D])])
      0x5D 0x00 0x10 0x24 0xFD 0x8002 [] 6 = true := by decide

/-- V-AD3: ZPX wraps in page zero: ea = 0x0001, never 0x0101 (source §8). -/
theorem test_ldaZpx_ad3 :
    ends (prog ({ start with x := 0x02 }) [(0x8000, [0xB5, 0xFF]), (0x1, [0x77]), (0x101, [0x99])])
      0x77 0x02 0x00 0x24 0xFD 0x8002 [] 4 = true := by decide

/-- V-AD4: ZPY wraps: ea = 0x0010. -/
theorem test_ldxZpy_ad4 :
    ends (prog ({ start with y := 0x20 }) [(0x8000, [0xB6, 0xF0]), (0x10, [0x66]), (0x110, [0x99])])
      0x00 0x66 0x20 0x24 0xFD 0x8002 [] 4 = true := by decide

/-- V-SY12: CLV. -/
theorem test_clv_sy12 :
    ends (prog ({ start with p := 0x64 }) [(0x8000, [0xB8])])
      0x00 0x00 0x00 0x24 0xFD 0x8001 [] 2 = true := by decide

/-- V-AD8: ABY wraps modulo 65536: 0xFFFF + 2 = 0x0001, crossed. -/
theorem test_ldaAby_ad8 :
    ends (prog ({ start with y := 0x02 }) [(0x8000, [0xB9, 0xFF, 0xFF]), (0x1, [0x33])])
      0x33 0x00 0x02 0x24 0xFD 0x8003 [] 5 = true := by decide

/-- V-TS5: TSX after reset: X = 0xFD, N set. -/
theorem test_tsx_ts5 :
    ends (prog start [(0x8000, [0xBA])])
      0x00 0xFD 0x00 0xA4 0xFD 0x8001 [] 2 = true := by decide

/-- V-LS5: LDY abs,X crossed: 5 cycles. -/
theorem test_ldyAbx_ls5 :
    ends (prog ({ start with x := 0x80 }) [(0x8000, [0xBC, 0x80, 0x20]), (0x2100, [0x7F])])
      0x00 0x80 0x7F 0x24 0xFD 0x8003 [] 5 = true := by decide

/-- V-AD6: ABX, same page: 0x2000 -> 0x20FF, base table. -/
theorem test_ldaAbx_ad6 :
    ends (prog ({ start with x := 0xFF }) [(0x8000, [0xBD, 0x00, 0x20]), (0x20ff, [0x11])])
      0x11 0xFF 0x00 0x24 0xFD 0x8003 [] 4 = true := by decide

/-- V-AD7: ABX, page crossed: 0x2001 -> 0x2100, cross table. -/
theorem test_ldaAbx_ad7 :
    ends (prog ({ start with x := 0xFF }) [(0x8000, [0xBD, 0x01, 0x20]), (0x2100, [0x22])])
      0x22 0xFF 0x00 0x24 0xFD 0x8003 [] 5 = true := by decide

/-- V-LS6: LDX abs,Y same page: 4 cycles. -/
theorem test_ldxAby_ls6 :
    ends (prog ({ start with y := 0x05 }) [(0x8000, [0xBE, 0x00, 0x20]), (0x2005, [0x81])])
      0x00 0x81 0x05 0xA4 0xFD 0x8003 [] 4 = true := by decide

/-- V-AR19: CPY zp equal. -/
theorem test_cpyZp_ar19 :
    ends (prog ({ start with y := 0x04 }) [(0x8000, [0xC4, 0x10]), (0x10, [0x04])])
      0x00 0x00 0x04 0x27 0xFD 0x8002 [] 3 = true := by decide

/-- V-AR22: DEC 0x00 -> 0xFF. -/
theorem test_decZp_ar22 :
    ends (prog start [(0x8000, [0xC6, 0x10]), (0x10, [0x00])])
      0x00 0x00 0x00 0xA4 0xFD 0x8002 [(0x0010, 0xFF)] 5 = true := by decide

/-- V-AR25: INY to 0x80: N. -/
theorem test_iny_ar25 :
    ends (prog ({ start with y := 0x7F }) [(0x8000, [0xC8])])
      0x00 0x00 0x80 0xA4 0xFD 0x8001 [] 2 = true := by decide

/-- V-AR16: CMP, A = M: Z = 1, C = 1. -/
theorem test_cmpImm_ar16 :
    ends (prog ({ start with a := 0x20 }) [(0x8000, [0xC9, 0x20])])
      0x20 0x00 0x00 0x27 0xFD 0x8002 [] 2 = true := by decide

/-- V-AR17: CMP, A < M: C = 0, N from 0xF0; V untouched. -/
theorem test_cmpImm_ar17 :
    ends (prog ({ start with a := 0x20, p := 0x65 }) [(0x8000, [0xC9, 0x30])])
      0x20 0x00 0x00 0xE4 0xFD 0x8002 [] 2 = true := by decide

/-- V-AR26: DEX wraps to 0xFF. -/
theorem test_dex_ar26 :
    ends (prog ({ start with x := 0x00 }) [(0x8000, [0xCA])])
      0x00 0xFF 0x00 0xA4 0xFD 0x8001 [] 2 = true := by decide

/-- V-AR23: DEC 0x01 -> 0x00: Z. -/
theorem test_decAbs_ar23 :
    ends (prog start [(0x8000, [0xCE, 0x00, 0x02]), (0x200, [0x01])])
      0x00 0x00 0x00 0x26 0xFD 0x8003 [(0x0200, 0x00)] 6 = true := by decide

/-- V-CT12: BNE backward, same page. -/
theorem test_bne_ct12 :
    ends (prog ({ start with pc := 0x8005 }) [(0x8005, [0xD0, 0xFB])])
      0x00 0x00 0x00 0x24 0xFD 0x8002 [] 3 = true := by decide

/-- V-CT16: BNE with offset 0: taken, target = next instruction, 3 cycles. -/
theorem test_bne_ct16 :
    ends (prog start [(0x8000, [0xD0, 0x00])])
      0x00 0x00 0x00 0x24 0xFD 0x8002 [] 3 = true := by decide

/-- V-SY13: CLD. -/
theorem test_cld_sy13 :
    ends (prog ({ start with p := 0x2C }) [(0x8000, [0xD8])])
      0x00 0x00 0x00 0x24 0xFD 0x8001 [] 2 = true := by decide

/-- V-AR18: CPX: 0x7F - 0x80 = 0xFF, C = 0, N = 1 (unsigned compare). -/
theorem test_cpxImm_ar18 :
    ends (prog ({ start with x := 0x7F }) [(0x8000, [0xE0, 0x80])])
      0x00 0x7F 0x00 0xA4 0xFD 0x8002 [] 2 = true := by decide

/-- V-AR20: INC 0xFF -> 0x00: Z set, C untouched. -/
theorem test_incZp_ar20 :
    ends (prog ({ start with p := 0x25 }) [(0x8000, [0xE6, 0x10]), (0x10, [0xFF])])
      0x00 0x00 0x00 0x27 0xFD 0x8002 [(0x0010, 0x00)] 5 = true := by decide

/-- V-AR24: INX wraps to 0. -/
theorem test_inx_ar24 :
    ends (prog ({ start with x := 0xFF }) [(0x8000, [0xE8])])
      0x00 0x00 0x00 0x26 0xFD 0x8001 [] 2 = true := by decide

/-- V-AR11: 0x80 - 1 = 0x7F: V set, no borrow. -/
theorem test_sbcImm_ar11 :
    ends (prog ({ start with a := 0x80, p := 0x25 }) [(0x8000, [0xE9, 0x01])])
      0x7F 0x00 0x00 0x65 0xFD 0x8002 [] 2 = true := by decide

/-- V-AR14: equal operands, C = 0: 0xFF, borrow. -/
theorem test_sbcImm_ar14 :
    ends (prog ({ start with a := 0x40, p := 0x24 }) [(0x8000, [0xE9, 0x40])])
      0xFF 0x00 0x00 0xA4 0xFD 0x8002 [] 2 = true := by decide

/-- V-SY7: NOP. -/
theorem test_nop_sy7 :
    ends (prog start [(0x8000, [0xEA])])
      0x00 0x00 0x00 0x24 0xFD 0x8001 [] 2 = true := by decide

/-- V-CT10: BEQ forward across a page: 4 cycles. -/
theorem test_beq_ct10 :
    ends (prog ({ start with p := 0x26, pc := 0x80f0 }) [(0x80f0, [0xF0, 0x7F])])
      0x00 0x00 0x00 0x26 0xFD 0x8171 [] 4 = true := by decide

/-- V-CT18: branch whose own bytes straddle a page: next = 0x80FF, target 0x8100, crossed (next vs target). -/
theorem test_beq_ct18 :
    ends (prog ({ start with p := 0x26, pc := 0x80fd }) [(0x80fd, [0xF0, 0x01])])
      0x00 0x00 0x00 0x26 0xFD 0x8100 [] 4 = true := by decide

/-- V-SY14: SED. -/
theorem test_sed_sy14 :
    ends (prog start [(0x8000, [0xF8])])
      0x00 0x00 0x00 0x2C 0xFD 0x8001 [] 2 = true := by decide

/-- V-AR21: INC abs,X crossed: 7 cycles either way; N set. -/
theorem test_incAbx_ar21 :
    ends (prog ({ start with x := 0xFF }) [(0x8000, [0xFE, 0x01, 0x20]), (0x2100, [0x7F])])
      0x00 0xFF 0x00 0xA4 0xFD 0x8003 [(0x2100, 0x80)] 7 = true := by decide

/-! The engine: interrupts, illegal opcodes, strict BRK, decimal mode, reset, the trace (95_test_vectors tables H and I) -/

/-- The vectors and handlers of table H: IRQ and BRK to 0x9000, NMI to 0xA000, RESET to 0xB000, NOP at each. -/
def handlers : List (Word × List Byte) :=
  [(0xFFFA, [0x00, 0xA0, 0x00, 0xB0, 0x00, 0x90]), (0x9000, [0xEA]), (0xA000, [0xEA]), (0xB000, [0xEA])]

/-- The state of table H: INX at 0x8003. -/
def atInx (s : State) : State := prog { s with pc := 0x8003 } ((0x8003, [0xE8]) :: handlers)

/-- V-IN1: IRQ with I clear is taken; 7 + 2 cycles. -/
theorem test_interrupt_in1 :
    ends (atInx { start with p := 0x20, irq := true }) 0x00 0x00 0x00 0x24 0xFA 0x9001
      [(0x01FD, 0x80), (0x01FC, 0x03), (0x01FB, 0x20)] 9 = true := by decide
/-- V-IN2: IRQ with I set is not taken and stays pending. -/
theorem test_interrupt_in2 :
    ends (atInx { start with irq := true }) 0x00 0x01 0x00 0x24 0xFD 0x8004 [] 2 = true := by decide
/-- V-IN3: NMI is taken although I is set. -/
theorem test_interrupt_in3 :
    ends (atInx { start with nmi := true }) 0x00 0x00 0x00 0x24 0xFA 0xA001
      [(0x01FD, 0x80), (0x01FC, 0x03), (0x01FB, 0x24)] 9 = true := by decide
/-- V-IN4: RESET loads PC only; P and SP stay. -/
theorem test_interrupt_in4 :
    ends (atInx { start with p := 0x20, sp := 0x80, resetLine := true }) 0x00 0x00 0x00 0x20 0x80 0xB001 [] 9 = true := by
  decide
/-- V-IN5: all three pending: RESET only; NMI and IRQ stay. -/
theorem test_interrupt_in5 :
    nextIs (atInx { start with p := 0x20, irq := true, nmi := true, resetLine := true })
      (fun t => t.pc == 0xB001 && t.sp == 0xFD && t.irq && t.nmi && !t.resetLine && t.cycles == 9) = true := by decide
/-- V-IN6: NMI before IRQ; IRQ stays. -/
theorem test_interrupt_in6 :
    nextIs (atInx { start with p := 0x20, irq := true, nmi := true })
      (fun t => t.pc == 0xA001 && t.p == 0x24 && t.irq && !t.nmi) = true := by decide
/-- V-IN7: SP = 0x01 wraps within page one. -/
theorem test_interrupt_in7 :
    ends (atInx { start with p := 0x20, sp := 0x01, irq := true }) 0x00 0x00 0x00 0x24 0xFE 0x9001
      [(0x0101, 0x80), (0x0100, 0x03), (0x01FF, 0x20)] 9 = true := by decide
/-- V-EX1: an illegal opcode changes nothing and costs nothing. -/
theorem test_illegal_ex1 : illegal (prog { start with a := 0x11 } [(0x8000, [0x02])]) 0x02 0x8000 [] 0 = true := by decide
/-- V-EX3: an interrupt serviced in the same step stays; 7 cycles. -/
theorem test_illegal_ex3 :
    illegal (prog (atInx { start with p := 0x20, irq := true }) [(0x9000, [0x02])]) 0x02 0x9000
      [(0x01FD, 0x80), (0x01FC, 0x03), (0x01FB, 0x20)] 7 = true := by decide
/-- R270: a failed step can be stepped again: it fails the same way. -/
theorem test_illegal_again :
    (match step (prog start [(0x8000, [0x02])]) with
      | .fault f => illegal (stateAfterFault f) 0x02 0x8000 [] 0
      | _ => false) = true := by decide
/-- R105: strict mode reports BRK after charging its 7 cycles. -/
theorem test_strict_brk :
    nextIs (prog { start with brkStrict := true } ((0x8000, [0x00]) :: handlers))
      (fun t => t.outcome == .breakExecuted 0x00 && t.cycles == 7 && t.pc == 0x9000 && t.sp == 0xFA) = true := by decide
/-- V-AR7: decimal mode is refused. -/
theorem test_decimal_refused : refuses (prog { start with a := 0x09, p := 0x2C } [(0x8000, [0x69, 0x01])]) = true := by decide
/-- V-AR8: with decimal mode disabled D has no effect. -/
theorem test_decimal_disabled :
    ends (prog { start with a := 0x09, p := 0x2C, decimalEnabled := false } [(0x8000, [0x69, 0x01])])
      0x0A 0x00 0x00 0x2C 0xFD 0x8002 [] 2 = true := by decide
/-- SRC-1: reset with a vector in M0. -/
theorem test_reset_vector :
    (hostReset ResetParams.default [(0xFFFC, 0x34), (0xFFFD, 0x12)] start).pc = 0x1234 := by decide
/-- SRC-13: the register snapshot of the default start state. -/
theorem test_snapshot :
    formatRegisters start = "A:00 X:00 Y:00 P:24 SP:FD PC:8000".toList := by decide
/-- R300, R301: the record and the line of LDA $1234,X at 0x8000 (field widths 5, 4, 26, 25). -/
theorem test_trace_line :
    traceLine (traceRecord 0x8000 0xBD 0x34 0x12 []) =
      "8000BD34 12LDA $1234,X                                            ".toList := by decide
/-- The record is absent after a step with TRACE off (R20). -/
theorem test_trace_off :
    nextIs (prog { start with record := some (traceRecord 0 0xEA 0 0 []) } [(0x8000, [0xEA])])
      (fun t => t.record == none) = true := by decide
/-- R110: a run ends at the first outcome that is not Success: NOP, then an illegal opcode. -/
theorem test_run :
    (match run 3 (prog start [(0x8000, [0xEA, 0x02])]) with
      | .ended (.unimplementedOpcode 0x02) t => t.pc == 0x8001
      | _ => false) = true := by decide
/-- withFetchWord: the placed word is what the next step runs, although an interrupt was pending (log entry 12). -/
theorem test_with_fetch_word :
    nextIs (State.withFetchWord { start with nmi := true, irq := true } 16 0x42A9)
      (fun t => t.a == 0x42 && t.pc == 0x8002 && t.irq) = true := by decide

/-! Witnesses: states and operands that meet the hypotheses of each statement that has some, one for each clause -/

/-- StepRunsTheDecodedInstruction: a decoding at PC = 0xFFFF that wraps, with TRACE false and a next state. -/
theorem test_witness_step_next :
    let s := prog { start with pc := 0xFFFF } [(0xFFFF, [0xA9, 0x42, 0x00])]
    decode (fetchBytes (atFetch s)) = .ok (.ldaImm 0x42) [0x00] ∧ s.trace = false ∧
      execIs (.ldaImm 0x42) (advance (fillRecord (fetched s) ((atFetch s).log (.read (atFetch s).pc)))) (fun _ => true) =
        true := by decide
/-- StepRunsTheDecodedInstruction: a decoding whose behaviour is refused. -/
theorem test_witness_step_refused :
    let s := prog { start with p := 0x2C } [(0x8000, [0x69, 0x01, 0x00])]
    decode (fetchBytes (atFetch s)) = .ok (.adcImm 0x01) [0x00] ∧
      exec (.adcImm 0x01) (advance (fillRecord (fetched s) ((atFetch s).log (.read (atFetch s).pc)))) =
        .refused .decimalArithmetic := ⟨by decide, rfl⟩
/-- DecodeAndEncodeAgree: bytes that decode, with a rest. -/
theorem test_witness_decode : decode [0xAD, 0x34, 0x12, 0xEA] = .ok (.ldaAbs 0x1234) [0xEA] := by decide
/-- PlacedInstructionIsFetched: the bytes of LDA $1234 at 0xFFFE, 0xFFFF and 0x0000, no interrupt to service. -/
theorem test_witness_placed :
    let s := prog { start with pc := 0xFFFE } [(0xFFFE, [0xAD, 0x34, 0x12])]
    NoInterrupt s ∧
    ∀ (k : Nat) (b : Byte), (encode (.ldaAbs 0x1234))[k]? = some b → s.mem.read (s.pc + BitVec.ofNat 16 k) = b := by
  intro s
  refine ⟨by decide, fun k b h => ?_⟩
  match k with
  | 0 => exact (Option.some.inj h) ▸ (by decide)
  | 1 => exact (Option.some.inj h) ▸ (by decide)
  | 2 => exact (Option.some.inj h) ▸ (by decide)
  | k + 3 => exact absurd h (by simp [encode])
/-- PlacedInstructionIsFetched: the bytes of LDA #$42 at the handler of a pending NMI. -/
theorem test_witness_placed_nmi :
    let s := prog { start with nmi := true } [(0xFFFA, [0xFF, 0xFF]), (0xFFFF, [0xA9, 0x42])]
    ∀ (k : Nat) (b : Byte), (encode (.ldaImm 0x42))[k]? = some b →
      (atFetch s).mem.read ((atFetch s).pc + BitVec.ofNat 16 k) = b := by
  intro s k b h
  match k with
  | 0 => exact (Option.some.inj h) ▸ (by decide)
  | 1 => exact (Option.some.inj h) ▸ (by decide)
  | k + 2 => exact absurd h (by simp [encode])
/-- EveryBehaviourCompletesOutsideDecimalMode: ADC in decimal mode; ADC with the toggle off; CLD in decimal mode. -/
theorem test_witness_completes :
    (mnemonicOf (.adcImm 0x01) = some .ADC ∧ ({ start with p := 0x2C } : State).flag .D = true ∧
      start.decimalEnabled = true) ∧
    ({ start with p := 0x2C, decimalEnabled := false } : State).decimalEnabled = false ∧
    mnemonicOf .cld = some .CLD := by decide
/-- OpcodeTablesAreTheListedOnes: a populated and an empty slot. -/
theorem test_witness_rom : (rom 0xEA).isSome = true ∧ rom 0x02 = none ∧ rom 0xFF = none := ⟨by decide, rfl, rfl⟩
/-- UnimplementedOpcodeChangesNothing: an illegal byte with no interrupt serviced (the state after reset). -/
theorem test_witness_illegal : rom (fetched State.reset) = none ∧ NoInterrupt State.reset := ⟨rfl, by decide⟩
/-- UnimplementedOpcodeChangesNothing: an illegal byte at the handler of an IRQ, whose entry wrote through the port. -/
theorem test_witness_illegal_after_irq :
    let s := prog (atInx { start with p := 0x20, irq := true }) [(0x9000, [0x02])]
    rom (fetched s) = none ∧ (atFetch s).cycles = 7 ∧
      (match step s with
        | .fault (.unimplementedOpcode _ left) => left.accesses.contains (.write 0x01FD 0x80)
        | _ => false) = true := ⟨rfl, by decide, by decide⟩
/-- StepKeepsTheInvariant: a state with the invariant whose step answers a next state. -/
theorem test_witness_inv_next :
    State.Inv (prog start [(0x8000, [0xA9, 0x42])]) ∧
      nextIs (prog start [(0x8000, [0xA9, 0x42])]) (fun _ => true) = true := ⟨⟨by decide, by decide, fun _ => rfl⟩, by decide⟩
/-- StepKeepsTheInvariant: a state with the invariant whose step faults. -/
theorem test_witness_inv_fault : State.Inv State.reset ∧ ∃ f, step State.reset = .fault f :=
  ⟨⟨by decide, by decide, fun _ => rfl⟩, _, rfl⟩
/-- HostEventsKeepTheInvariant: reset() with a memory in canonical form, from a state with the invariant. -/
theorem test_witness_host :
    HostEvent.wf (.reset ResetParams.default [(0xFFFC, 0x00), (0xFFFD, 0x80)]) = true ∧ State.Inv State.reset :=
  ⟨by decide, by decide, by decide, fun _ => rfl⟩
/-- ReachableStatesMeetTheInvariant: a state reached by an event, a failed step and an event. -/
theorem test_witness_reachable :
    ∃ f, step (hostEvent (.setBrkStrict true) State.reset) = .fault f ∧
      Reachable (hostEvent (.writeMemory 0xFFFF 0xEA) (stateAfterFault f)) :=
  ⟨_, rfl, .host _ rfl (.resume (s := hostEvent (.setBrkStrict true) State.reset) _ (.host _ rfl .reset) rfl)⟩
/-- ResetOperation: two states that differ but agree on the configuration inputs. -/
theorem test_witness_reset :
    let u : State := { start with a := 0x77, p := 0xFF, irq := true, resetLine := true }
    u ≠ start ∧ u.brkStrict = start.brkStrict ∧ u.trace = start.trace ∧ u.decimalEnabled = start.decimalEnabled := by decide
/-- ResetOperation: a memory whose bytes all read 0xFF, with no NMI after reset(). -/
theorem test_witness_reset_all_ff :
    (∀ a : Word, Memory.read [] a = 0xFF) ∧ ResetParams.default.nmi = false := ⟨fun _ => rfl, rfl⟩
/-- InterruptCheckDecides: one state for each of its four clauses. -/
theorem test_witness_check :
    ({ start with resetLine := true, nmi := true, irq := true } : State).resetLine = true ∧
    (let s : State := { start with nmi := true, irq := true }; s.resetLine = false ∧ s.nmi = true) ∧
    (let s : State := { start with p := 0x20, irq := true };
      s.resetLine = false ∧ s.nmi = false ∧ s.irq = true ∧ s.flag .I = false) ∧
    NoInterrupt { start with irq := true } ∧ NoInterrupt { start with p := 0x20 } := by decide
/-- InterruptPriority: all three pending, the step and the one after it answer next states, the second with I set; NMI and
IRQ pending alone. -/
theorem test_witness_priority :
    (let s := atInx { start with p := 0x20, irq := true, nmi := true, resetLine := true };
      s.resetLine = true ∧ s.nmi = true ∧ s.irq = true ∧
        nextIs s (fun t => nextIs t (fun u => u.flag .I && u.pc == 0xA001)) = true) ∧
    (let s := atInx { start with p := 0x20, irq := true, nmi := true };
      s.resetLine = false ∧ s.nmi = true ∧ s.irq = true) := by decide
/-- RtiUndoesInterruptEntry: both vectors, a P with its hard-wired bits, SP at the wrap. -/
theorem test_witness_rti :
    let s : State := { start with p := 0xEF, sp := 0x01 }
    statusHardwired s.p = true ∧ (nmiVector = nmiVector ∨ nmiVector = irqVector) ∧
      (irqVector = nmiVector ∨ irqVector = irqVector) := by decide
/-- MaskChangesHaveNoLatency: CLI at 0xFFFF with IRQ pending and masked; SEI there with I clear, and with I set and IRQ
pending; SEI as the first instruction after RESET with IRQ pending and not masked. -/
theorem test_witness_mask :
    (let s := prog { start with pc := 0xFFFF, irq := true } [(0xFFFF, [0x58])];
      s.resetLine = false ∧ s.nmi = false ∧ s.irq = true ∧ s.flag .I = true ∧ s.mem.read s.pc = 0x58) ∧
    (let s := prog { start with pc := 0xFFFF, p := 0x20 } [(0xFFFF, [0x78])];
      NoInterrupt s ∧ s.flag .I = false ∧ s.mem.read s.pc = 0x78) ∧
    (let s := prog { start with pc := 0xFFFF, irq := true } [(0xFFFF, [0x78])];
      NoInterrupt s ∧ s.irq = true ∧ s.mem.read s.pc = 0x78) ∧
    (let s := prog { start with p := 0x20, irq := true, resetLine := true } [(0xFFFC, [0xFF, 0xFF]), (0xFFFF, [0x78])];
      s.resetLine = true ∧ s.nmi = false ∧ s.irq = true ∧ s.flag .I = false ∧
        s.mem.read (vectorWord s resetVector) = 0x78) := by
  decide
/-- CyclesAreCharged: an interrupt (7) and a taken branch across a page, 2 + 1 + 1 (V-CT17's rule R106). -/
theorem test_witness_cycles :
    nextIs (prog (atInx { start with p := 0x20, irq := true }) [(0x9000, [0x90, 0x80])])
      (fun t => t.status.pageCrossed && t.status.branchTaken && t.cycles == 11) = true ∧
    nextIs (prog start [(0x8000, [0xEA])]) (fun t => t.cycles == 2) = true := by decide
/-- StrictModeOnlyReportsBrk: BRK and another instruction step to a next state, the mode on and off. -/
theorem test_witness_strict :
    (let s := prog { start with brkStrict := true } ((0x8000, [0x00]) :: handlers);
      s.brkStrict = true ∧ fetched s = 0x00 ∧ nextIs s (fun _ => true) = true ∧
        nextIs { s with brkStrict := false } (fun _ => true) = true) ∧
    (let s := prog { start with brkStrict := true } [(0x8000, [0xEA])];
      fetched s ≠ 0x00 ∧ nextIs s (fun _ => true) = true ∧ nextIs { s with brkStrict := false } (fun _ => true) = true) := by
  decide
/-- TraceRecordOfAStep: a step with TRACE on that answers a next state, and one with TRACE off. -/
theorem test_witness_trace :
    (let s := prog { start with trace := true } [(0x8000, [0xA9, 0x42])];
      s.trace = true ∧ (rom (fetched s)).isSome = true ∧ ∃ t, step s = .next t) ∧
    (let s := prog start [(0x8000, [0xA9, 0x42])]; s.trace = false ∧ ∃ t, step s = .next t) :=
  ⟨⟨rfl, rfl, _, rfl⟩, rfl, _, rfl⟩
/-- TraceDoesNotInterfere: two states that differ in TRACE and the record. -/
theorem test_witness_interfere :
    SameButTrace start { start with trace := true, record := some (traceRecord 0x8000 0xEA 0 0 []) } ∧
      start ≠ { start with trace := true, record := some (traceRecord 0x8000 0xEA 0 0 []) } :=
  ⟨rfl, by decide⟩
/-- RunEndsAtTheFirstFailure: a step that succeeds, one that reports BreakExecuted, one that faults, a run that ended. -/
theorem test_witness_run :
    nextIs (prog start [(0x8000, [0xEA])]) (fun t => t.outcome == .success) = true ∧
    nextIs (prog { start with brkStrict := true } ((0x8000, [0x00]) :: handlers))
      (fun t => t.outcome == .breakExecuted 0x00) = true ∧
    (∃ left, step State.reset = .fault (.unimplementedOpcode 0xFF left)) ∧
    (∃ left, run 1 State.reset = .ended (.unimplementedOpcode 0xFF) left) :=
  ⟨by decide, by decide, ⟨_, rfl⟩, _, rfl⟩
/-- HostReachesLinesAndInputs: two different lines. -/
theorem test_witness_lines : InterruptLine.nmi ≠ InterruptLine.irq := by decide
/-- StoreIsSeenByTheNextFetch: STA to the address after itself at the top of the address space; the step answers. -/
theorem test_witness_self_modify :
    let s := prog { start with a := 0xE8, pc := 0xFFFD } [(0xFFFD, [0x8D, 0x00, 0x00])]
    s.resetLine = false ∧ s.nmi = false ∧ s.irq = false ∧
      decode (fetchBytes s) = .ok (.staAbs (s.pc + 3)) [] ∧ nextIs s (fun _ => true) = true := by decide
/-- AdcAddsWithCarry and SbcSubtractsWithBorrow: the refused case, and the three cases of the binary one. -/
theorem test_witness_decimal :
    (let s : State := { start with p := 0x2C }; s.flag .D = true ∧ s.decimalEnabled = true) ∧
    (let s : State := { start with p := 0x2C, decimalEnabled := false }; s.flag .D = true ∧ s.decimalEnabled = false) ∧
    (start.flag .D = false ∧ start.decimalEnabled = true) ∧
    (let s : State := { start with decimalEnabled := false }; s.flag .D = false ∧ s.decimalEnabled = false) := by decide
/-- RtsReturnsPastThePulledWord: a JSR at the top of the address space answers a next state. -/
theorem test_witness_jsr : ∃ t, exec (.jsr 0x1234) { start with pc := 0xFFFE, sp := 0x00 } = .next t := ⟨_, rfl⟩
/-- NoInstructionTouchesLatchesOrInputs: a next state of an instruction with all latches set. -/
theorem test_witness_latches :
    ∃ t, exec .rti { start with irq := true, nmi := true, resetLine := true } = .next t := ⟨_, rfl⟩
/-- WhoWritesWhat: for each clause an instruction that changes what it is about (B and U from states no run reaches). -/
theorem test_witness_who_writes :
    execIs .clv { start with p := 0x64 } (fun t => getFlag t.p .V != getFlag 0x64 .V) = true ∧
    execIs .sed start (fun t => getFlag t.p .D != getFlag start.p .D) = true ∧
    execIs .cli start (fun t => getFlag t.p .I != getFlag start.p .I) = true ∧
    execIs .sec start (fun t => getFlag t.p .C != getFlag start.p .C) = true ∧
    execIs .plp { start with p := 0x10 } (fun t => getFlag t.p .B != getFlag 0x10 .B) = true ∧
    execIs .rti { start with p := 0x00 } (fun t => getFlag t.p .U != getFlag 0x00 .U) = true ∧
    execIs .txs start (fun t => t.sp != start.sp) = true ∧
    execIs (.staZp 0x00) start (fun t => t.mem.read 0x0000 != start.mem.read 0x0000) = true := by decide

end Sys2Proof.Tests
end

section
/-! PROOFS. The invariant of the state under the events of the host between steps (00_scope R13, 10_state R37). -/

namespace Sys2Proof.Machine

/-- The invariant speaks of `P`, the memory, `TRACE` and the record alone. -/
theorem State.Inv.of_fields_eq {s t : State} (h : s.Inv) (hp : t.p = s.p) (hm : t.mem = s.mem)
    (ht : t.trace = s.trace) (hr : t.record = s.record) : t.Inv := by
  unfold State.Inv at h ⊢
  rwa [hp, hm, ht, hr]

theorem setInterruptLine_inv (w : InterruptLine) (b : Bool) {s : State} (h : s.Inv) : (setInterruptLine w b s).Inv := by
  cases w with
  | irq | nmi | reset => exact h.of_fields_eq rfl rfl rfl rfl

theorem setBrkStrict_inv (b : Bool) {s : State} (h : s.Inv) : (setBrkStrict b s).Inv :=
  h.of_fields_eq rfl rfl rfl rfl

theorem disableDecimalMode_inv {s : State} (h : s.Inv) : (disableDecimalMode s).Inv :=
  h.of_fields_eq rfl rfl rfl rfl

/-- With `TRACE` on, a record may stand. -/
theorem enableTrace_inv {s : State} (h : s.Inv) : (enableTrace s).Inv := by
  obtain ⟨hp, hmem, -⟩ := h
  exact ⟨hp, hmem, fun off => Bool.noConfusion off⟩

/-- Turning `TRACE` off drops the record (R20). -/
theorem toggleTrace_inv {s : State} (h : s.Inv) : (toggleTrace s).2.Inv := by
  obtain ⟨hp, hmem, -⟩ := h
  refine ⟨hp, hmem, fun off => ?_⟩
  have wasOn : s.trace = true := by simpa [toggleTrace] using off
  simp [toggleTrace, wasOn]

theorem hostWrite_inv (a : Word) (v : Byte) {s : State} (h : s.Inv) : (hostWrite a v s).Inv := by
  obtain ⟨hp, hmem, hrecord⟩ := h
  exact ⟨hp, Memory.wf_write s.mem a v hmem, hrecord⟩

@[simp] theorem hostReset_p (r : ResetParams) (m0 : Memory) (s : State) : (hostReset r m0 s).p = 0x24 := rfl
@[simp] theorem hostReset_mem (r : ResetParams) (m0 : Memory) (s : State) : (hostReset r m0 s).mem = m0 := rfl
@[simp] theorem hostReset_record (r : ResetParams) (m0 : Memory) (s : State) : (hostReset r m0 s).record = none := rfl

/-- `reset()` establishes the invariant from any state: nothing of it hangs on what came before. -/
theorem hostReset_inv (r : ResetParams) {m0 : Memory} (hm0 : m0.wf = true) (s : State) : (hostReset r m0 s).Inv := by
  refine ⟨?hardwired, ?canonical, fun _ => hostReset_record r m0 s⟩
  case hardwired =>
    rw [hostReset_p]
    decide
  case canonical => rwa [hostReset_mem]

/-- Settles O11, by cases on the event: a line or an input changes at most `TRACE` and the record of what the invariant speaks
of, a memory write keeps the canonical form, and `reset()` starts afresh from a canonical memory. -/
theorem hostEventsKeepTheInvariant : Obligations.HostEventsKeepTheInvariant := by
  intro e s hwf h
  cases e with
  | setLine w b => exact setInterruptLine_inv w b h
  | setBrkStrict b => exact setBrkStrict_inv b h
  | enableTrace => exact enableTrace_inv h
  | toggleTrace => exact toggleTrace_inv h
  | disableDecimalMode => exact disableDecimalMode_inv h
  | writeMemory a v => exact hostWrite_inv a v h
  | reset r m0 => exact hostReset_inv r hwf s

end Sys2Proof.Machine
end

section
/-! PROOFS. The shapes of a behaviour: each of the 151 arms of `exec` is one of eight shapes over the shared resolvers
(41_addressing R120) and operations, and the instruction's mnemonic fixes the operation. A fact about every instruction is
proved once for each shape. -/

open Sys2Proof.Claims

namespace Sys2Proof.Machine

/-- The resolvers that access an operand or a jump target (R124 to R132). -/
inductive IsResolver : (State → Resolved) → Prop where
  | zp (z : Byte) : IsResolver (addrZp z)
  | zpx (z : Byte) : IsResolver (addrZpx z)
  | zpy (z : Byte) : IsResolver (addrZpy z)
  | abs (addr : Word) : IsResolver (addrAbs addr)
  | abx (base : Word) : IsResolver (addrAbx base)
  | aby (base : Word) : IsResolver (addrAby base)
  | ind (ptr : Word) : IsResolver (addrInd ptr)
  | izx (z : Byte) : IsResolver (addrIzx z)
  | izy (z : Byte) : IsResolver (addrIzy z)

/-- The operand of a read instruction: the operand byte itself, or the byte at a resolved address (R113). -/
inductive IsOperand : (State → Operand) → Prop where
  | imm (v : Byte) : IsOperand (operandImm v)
  | byteAt {r : State → Resolved} (hr : IsResolver r) : IsOperand fun s => readAt (r s)

/-- What a read instruction does with its operand. -/
inductive ReadOp : Mnemonic → (Operand → Result) → Prop where
  | lda : ReadOp .LDA lda
  | ldx : ReadOp .LDX ldx
  | ldy : ReadOp .LDY ldy
  | adc : ReadOp .ADC adc
  | sbc : ReadOp .SBC sbc
  | cmp : ReadOp .CMP cmp
  | cpx : ReadOp .CPX cpx
  | cpy : ReadOp .CPY cpy
  | and : ReadOp .AND andA
  | ora : ReadOp .ORA oraA
  | eor : ReadOp .EOR eorA
  | bit : ReadOp .BIT bitTest

/-- The register a write instruction stores. -/
inductive StoreOp : Mnemonic → (State → Byte) → Prop where
  | sta : StoreOp .STA State.a
  | stx : StoreOp .STX State.x
  | sty : StoreOp .STY State.y

/-- The step on a byte and the status byte of a read-modify-write instruction, or of its accumulator form. -/
inductive ModifyOp : Mnemonic → (Byte → Byte → Modified) → Prop where
  | inc : ModifyOp .INC incStep
  | dec : ModifyOp .DEC decStep
  | asl : ModifyOp .ASL aslStep
  | lsr : ModifyOp .LSR lsrStep
  | rol : ModifyOp .ROL rolStep
  | ror : ModifyOp .ROR rorStep

/-- What an instruction with no operand does to the state. -/
inductive ImpliedOp : Mnemonic → (State → State) → Prop where
  | tax : ImpliedOp .TAX fun s => (s.setX s.a).setZN s.a
  | tay : ImpliedOp .TAY fun s => (s.setY s.a).setZN s.a
  | txa : ImpliedOp .TXA fun s => (s.setA s.x).setZN s.x
  | tya : ImpliedOp .TYA fun s => (s.setA s.y).setZN s.y
  | tsx : ImpliedOp .TSX fun s => (s.setX s.sp).setZN s.sp
  | txs : ImpliedOp .TXS fun s => s.setSp s.x
  | inx : ImpliedOp .INX fun s => (s.setX (s.x + 1)).setZN (s.x + 1)
  | iny : ImpliedOp .INY fun s => (s.setY (s.y + 1)).setZN (s.y + 1)
  | dex : ImpliedOp .DEX fun s => (s.setX (s.x - 1)).setZN (s.x - 1)
  | dey : ImpliedOp .DEY fun s => (s.setY (s.y - 1)).setZN (s.y - 1)
  | pha : ImpliedOp .PHA fun s => push s.a s
  | php : ImpliedOp .PHP fun s => push (pushedByProgram s.p) s
  | pla : ImpliedOp .PLA fun s => ((pull s).2.setA (pull s).1).setZN (pull s).1
  | plp : ImpliedOp .PLP fun s => (pull s).2.setP (loadedStatus (pull s).1)
  | rts : ImpliedOp .RTS returnFromSubroutine
  | brk : ImpliedOp .BRK fun s => enterInterrupt (s.pc + 1) (pushedByProgram s.p) irqVector s
  | rti : ImpliedOp .RTI returnFromInterrupt
  | nop : ImpliedOp .NOP fun s => s
  | clc : ImpliedOp .CLC fun s => s.setFlagTo .C false
  | sec : ImpliedOp .SEC fun s => s.setFlagTo .C true
  | cli : ImpliedOp .CLI fun s => s.setFlagTo .I false
  | sei : ImpliedOp .SEI fun s => s.setFlagTo .I true
  | clv : ImpliedOp .CLV fun s => s.setFlagTo .V false
  | cld : ImpliedOp .CLD fun s => s.setFlagTo .D false
  | sed : ImpliedOp .SED fun s => s.setFlagTo .D true

/-- The flag that a branch tests, and the value for which it is taken (R234 to R241). -/
inductive BranchOp : Mnemonic → Flag → Bool → Prop where
  | bcc : BranchOp .BCC .C false
  | bcs : BranchOp .BCS .C true
  | beq : BranchOp .BEQ .Z true
  | bmi : BranchOp .BMI .N true
  | bne : BranchOp .BNE .Z false
  | bpl : BranchOp .BPL .N false
  | bvc : BranchOp .BVC .V false
  | bvs : BranchOp .BVS .V true

/-- The eight shapes of a behaviour `b`, with the mnemonic that names its operation. -/
inductive Behaves : Mnemonic → (State → Result) → Prop where
  | read {m : Mnemonic} {use : Operand → Result} {o : State → Operand} {b : State → Result} (hu : ReadOp m use)
      (ho : IsOperand o) (hb : ∀ s, b s = use (o s)) : Behaves m b
  | store {m : Mnemonic} {reg : State → Byte} {r : State → Resolved} {b : State → Result} (hm : StoreOp m reg)
      (hr : IsResolver r) (hb : ∀ s, b s = storeTo (r s) (reg s)) : Behaves m b
  | modify {m : Mnemonic} {f : Byte → Byte → Modified} {r : State → Resolved} {b : State → Result} (hf : ModifyOp m f)
      (hr : IsResolver r) (hb : ∀ s, b s = readModifyWrite f (r s)) : Behaves m b
  | shiftA {m : Mnemonic} {f : Byte → Byte → Modified} {b : State → Result} (hf : ModifyOp m f)
      (hb : ∀ s, b s = accumulatorShift f s) : Behaves m b
  | branch {m : Mnemonic} {f : Flag} {v : Bool} {b : State → Result} (hm : BranchOp m f v) (off : Byte)
      (hb : ∀ s, b s = branch (s.flag f == v) (addrRel off s)) : Behaves m b
  | jump {r : State → Resolved} {b : State → Result} (hr : IsResolver r) (hb : ∀ s, b s = jumpTo (r s)) : Behaves .JMP b
  | subroutine {r : State → Resolved} {b : State → Result} (hr : IsResolver r)
      (hb : ∀ s, b s = jumpToSubroutine (r s)) : Behaves .JSR b
  | implied {m : Mnemonic} {g : State → State} {b : State → Result} (hg : ImpliedOp m g)
      (hb : ∀ s, b s = finish false (g s)) : Behaves m b

/-- The shape of every instruction's behaviour, under the instruction's mnemonic. -/
theorem exec_behaves : ∀ i : Instr, ∃ m, mnemonicOf i = some m ∧ Behaves m (exec i)
  | .ldaImm v => ⟨.LDA, rfl, .read .lda (.imm v) fun _ => rfl⟩
  | .ldaZp z => ⟨.LDA, rfl, .read .lda (.byteAt (.zp z)) fun _ => rfl⟩
  | .ldaZpx z => ⟨.LDA, rfl, .read .lda (.byteAt (.zpx z)) fun _ => rfl⟩
  | .ldaAbs addr => ⟨.LDA, rfl, .read .lda (.byteAt (.abs addr)) fun _ => rfl⟩
  | .ldaAbx base => ⟨.LDA, rfl, .read .lda (.byteAt (.abx base)) fun _ => rfl⟩
  | .ldaAby base => ⟨.LDA, rfl, .read .lda (.byteAt (.aby base)) fun _ => rfl⟩
  | .ldaIzx z => ⟨.LDA, rfl, .read .lda (.byteAt (.izx z)) fun _ => rfl⟩
  | .ldaIzy z => ⟨.LDA, rfl, .read .lda (.byteAt (.izy z)) fun _ => rfl⟩
  | .ldxImm v => ⟨.LDX, rfl, .read .ldx (.imm v) fun _ => rfl⟩
  | .ldxZp z => ⟨.LDX, rfl, .read .ldx (.byteAt (.zp z)) fun _ => rfl⟩
  | .ldxZpy z => ⟨.LDX, rfl, .read .ldx (.byteAt (.zpy z)) fun _ => rfl⟩
  | .ldxAbs addr => ⟨.LDX, rfl, .read .ldx (.byteAt (.abs addr)) fun _ => rfl⟩
  | .ldxAby base => ⟨.LDX, rfl, .read .ldx (.byteAt (.aby base)) fun _ => rfl⟩
  | .ldyImm v => ⟨.LDY, rfl, .read .ldy (.imm v) fun _ => rfl⟩
  | .ldyZp z => ⟨.LDY, rfl, .read .ldy (.byteAt (.zp z)) fun _ => rfl⟩
  | .ldyZpx z => ⟨.LDY, rfl, .read .ldy (.byteAt (.zpx z)) fun _ => rfl⟩
  | .ldyAbs addr => ⟨.LDY, rfl, .read .ldy (.byteAt (.abs addr)) fun _ => rfl⟩
  | .ldyAbx base => ⟨.LDY, rfl, .read .ldy (.byteAt (.abx base)) fun _ => rfl⟩
  | .staZp z => ⟨.STA, rfl, .store .sta (.zp z) fun _ => rfl⟩
  | .staZpx z => ⟨.STA, rfl, .store .sta (.zpx z) fun _ => rfl⟩
  | .staAbs addr => ⟨.STA, rfl, .store .sta (.abs addr) fun _ => rfl⟩
  | .staAbx base => ⟨.STA, rfl, .store .sta (.abx base) fun _ => rfl⟩
  | .staAby base => ⟨.STA, rfl, .store .sta (.aby base) fun _ => rfl⟩
  | .staIzx z => ⟨.STA, rfl, .store .sta (.izx z) fun _ => rfl⟩
  | .staIzy z => ⟨.STA, rfl, .store .sta (.izy z) fun _ => rfl⟩
  | .stxZp z => ⟨.STX, rfl, .store .stx (.zp z) fun _ => rfl⟩
  | .stxZpy z => ⟨.STX, rfl, .store .stx (.zpy z) fun _ => rfl⟩
  | .stxAbs addr => ⟨.STX, rfl, .store .stx (.abs addr) fun _ => rfl⟩
  | .styZp z => ⟨.STY, rfl, .store .sty (.zp z) fun _ => rfl⟩
  | .styZpx z => ⟨.STY, rfl, .store .sty (.zpx z) fun _ => rfl⟩
  | .styAbs addr => ⟨.STY, rfl, .store .sty (.abs addr) fun _ => rfl⟩
  | .tax => ⟨.TAX, rfl, .implied .tax fun _ => rfl⟩
  | .tay => ⟨.TAY, rfl, .implied .tay fun _ => rfl⟩
  | .txa => ⟨.TXA, rfl, .implied .txa fun _ => rfl⟩
  | .tya => ⟨.TYA, rfl, .implied .tya fun _ => rfl⟩
  | .tsx => ⟨.TSX, rfl, .implied .tsx fun _ => rfl⟩
  | .txs => ⟨.TXS, rfl, .implied .txs fun _ => rfl⟩
  | .pha => ⟨.PHA, rfl, .implied .pha fun _ => rfl⟩
  | .php => ⟨.PHP, rfl, .implied .php fun _ => rfl⟩
  | .pla => ⟨.PLA, rfl, .implied .pla fun _ => rfl⟩
  | .plp => ⟨.PLP, rfl, .implied .plp fun _ => rfl⟩
  | .adcImm v => ⟨.ADC, rfl, .read .adc (.imm v) fun _ => rfl⟩
  | .adcZp z => ⟨.ADC, rfl, .read .adc (.byteAt (.zp z)) fun _ => rfl⟩
  | .adcZpx z => ⟨.ADC, rfl, .read .adc (.byteAt (.zpx z)) fun _ => rfl⟩
  | .adcAbs addr => ⟨.ADC, rfl, .read .adc (.byteAt (.abs addr)) fun _ => rfl⟩
  | .adcAbx base => ⟨.ADC, rfl, .read .adc (.byteAt (.abx base)) fun _ => rfl⟩
  | .adcAby base => ⟨.ADC, rfl, .read .adc (.byteAt (.aby base)) fun _ => rfl⟩
  | .adcIzx z => ⟨.ADC, rfl, .read .adc (.byteAt (.izx z)) fun _ => rfl⟩
  | .adcIzy z => ⟨.ADC, rfl, .read .adc (.byteAt (.izy z)) fun _ => rfl⟩
  | .sbcImm v => ⟨.SBC, rfl, .read .sbc (.imm v) fun _ => rfl⟩
  | .sbcZp z => ⟨.SBC, rfl, .read .sbc (.byteAt (.zp z)) fun _ => rfl⟩
  | .sbcZpx z => ⟨.SBC, rfl, .read .sbc (.byteAt (.zpx z)) fun _ => rfl⟩
  | .sbcAbs addr => ⟨.SBC, rfl, .read .sbc (.byteAt (.abs addr)) fun _ => rfl⟩
  | .sbcAbx base => ⟨.SBC, rfl, .read .sbc (.byteAt (.abx base)) fun _ => rfl⟩
  | .sbcAby base => ⟨.SBC, rfl, .read .sbc (.byteAt (.aby base)) fun _ => rfl⟩
  | .sbcIzx z => ⟨.SBC, rfl, .read .sbc (.byteAt (.izx z)) fun _ => rfl⟩
  | .sbcIzy z => ⟨.SBC, rfl, .read .sbc (.byteAt (.izy z)) fun _ => rfl⟩
  | .cmpImm v => ⟨.CMP, rfl, .read .cmp (.imm v) fun _ => rfl⟩
  | .cmpZp z => ⟨.CMP, rfl, .read .cmp (.byteAt (.zp z)) fun _ => rfl⟩
  | .cmpZpx z => ⟨.CMP, rfl, .read .cmp (.byteAt (.zpx z)) fun _ => rfl⟩
  | .cmpAbs addr => ⟨.CMP, rfl, .read .cmp (.byteAt (.abs addr)) fun _ => rfl⟩
  | .cmpAbx base => ⟨.CMP, rfl, .read .cmp (.byteAt (.abx base)) fun _ => rfl⟩
  | .cmpAby base => ⟨.CMP, rfl, .read .cmp (.byteAt (.aby base)) fun _ => rfl⟩
  | .cmpIzx z => ⟨.CMP, rfl, .read .cmp (.byteAt (.izx z)) fun _ => rfl⟩
  | .cmpIzy z => ⟨.CMP, rfl, .read .cmp (.byteAt (.izy z)) fun _ => rfl⟩
  | .cpxImm v => ⟨.CPX, rfl, .read .cpx (.imm v) fun _ => rfl⟩
  | .cpxZp z => ⟨.CPX, rfl, .read .cpx (.byteAt (.zp z)) fun _ => rfl⟩
  | .cpxAbs addr => ⟨.CPX, rfl, .read .cpx (.byteAt (.abs addr)) fun _ => rfl⟩
  | .cpyImm v => ⟨.CPY, rfl, .read .cpy (.imm v) fun _ => rfl⟩
  | .cpyZp z => ⟨.CPY, rfl, .read .cpy (.byteAt (.zp z)) fun _ => rfl⟩
  | .cpyAbs addr => ⟨.CPY, rfl, .read .cpy (.byteAt (.abs addr)) fun _ => rfl⟩
  | .incZp z => ⟨.INC, rfl, .modify .inc (.zp z) fun _ => rfl⟩
  | .incZpx z => ⟨.INC, rfl, .modify .inc (.zpx z) fun _ => rfl⟩
  | .incAbs addr => ⟨.INC, rfl, .modify .inc (.abs addr) fun _ => rfl⟩
  | .incAbx base => ⟨.INC, rfl, .modify .inc (.abx base) fun _ => rfl⟩
  | .inx => ⟨.INX, rfl, .implied .inx fun _ => rfl⟩
  | .iny => ⟨.INY, rfl, .implied .iny fun _ => rfl⟩
  | .decZp z => ⟨.DEC, rfl, .modify .dec (.zp z) fun _ => rfl⟩
  | .decZpx z => ⟨.DEC, rfl, .modify .dec (.zpx z) fun _ => rfl⟩
  | .decAbs addr => ⟨.DEC, rfl, .modify .dec (.abs addr) fun _ => rfl⟩
  | .decAbx base => ⟨.DEC, rfl, .modify .dec (.abx base) fun _ => rfl⟩
  | .dex => ⟨.DEX, rfl, .implied .dex fun _ => rfl⟩
  | .dey => ⟨.DEY, rfl, .implied .dey fun _ => rfl⟩
  | .andImm v => ⟨.AND, rfl, .read .and (.imm v) fun _ => rfl⟩
  | .andZp z => ⟨.AND, rfl, .read .and (.byteAt (.zp z)) fun _ => rfl⟩
  | .andZpx z => ⟨.AND, rfl, .read .and (.byteAt (.zpx z)) fun _ => rfl⟩
  | .andAbs addr => ⟨.AND, rfl, .read .and (.byteAt (.abs addr)) fun _ => rfl⟩
  | .andAbx base => ⟨.AND, rfl, .read .and (.byteAt (.abx base)) fun _ => rfl⟩
  | .andAby base => ⟨.AND, rfl, .read .and (.byteAt (.aby base)) fun _ => rfl⟩
  | .andIzx z => ⟨.AND, rfl, .read .and (.byteAt (.izx z)) fun _ => rfl⟩
  | .andIzy z => ⟨.AND, rfl, .read .and (.byteAt (.izy z)) fun _ => rfl⟩
  | .oraImm v => ⟨.ORA, rfl, .read .ora (.imm v) fun _ => rfl⟩
  | .oraZp z => ⟨.ORA, rfl, .read .ora (.byteAt (.zp z)) fun _ => rfl⟩
  | .oraZpx z => ⟨.ORA, rfl, .read .ora (.byteAt (.zpx z)) fun _ => rfl⟩
  | .oraAbs addr => ⟨.ORA, rfl, .read .ora (.byteAt (.abs addr)) fun _ => rfl⟩
  | .oraAbx base => ⟨.ORA, rfl, .read .ora (.byteAt (.abx base)) fun _ => rfl⟩
  | .oraAby base => ⟨.ORA, rfl, .read .ora (.byteAt (.aby base)) fun _ => rfl⟩
  | .oraIzx z => ⟨.ORA, rfl, .read .ora (.byteAt (.izx z)) fun _ => rfl⟩
  | .oraIzy z => ⟨.ORA, rfl, .read .ora (.byteAt (.izy z)) fun _ => rfl⟩
  | .eorImm v => ⟨.EOR, rfl, .read .eor (.imm v) fun _ => rfl⟩
  | .eorZp z => ⟨.EOR, rfl, .read .eor (.byteAt (.zp z)) fun _ => rfl⟩
  | .eorZpx z => ⟨.EOR, rfl, .read .eor (.byteAt (.zpx z)) fun _ => rfl⟩
  | .eorAbs addr => ⟨.EOR, rfl, .read .eor (.byteAt (.abs addr)) fun _ => rfl⟩
  | .eorAbx base => ⟨.EOR, rfl, .read .eor (.byteAt (.abx base)) fun _ => rfl⟩
  | .eorAby base => ⟨.EOR, rfl, .read .eor (.byteAt (.aby base)) fun _ => rfl⟩
  | .eorIzx z => ⟨.EOR, rfl, .read .eor (.byteAt (.izx z)) fun _ => rfl⟩
  | .eorIzy z => ⟨.EOR, rfl, .read .eor (.byteAt (.izy z)) fun _ => rfl⟩
  | .bitZp z => ⟨.BIT, rfl, .read .bit (.byteAt (.zp z)) fun _ => rfl⟩
  | .bitAbs addr => ⟨.BIT, rfl, .read .bit (.byteAt (.abs addr)) fun _ => rfl⟩
  | .aslAcc => ⟨.ASL, rfl, .shiftA .asl fun _ => rfl⟩
  | .aslZp z => ⟨.ASL, rfl, .modify .asl (.zp z) fun _ => rfl⟩
  | .aslZpx z => ⟨.ASL, rfl, .modify .asl (.zpx z) fun _ => rfl⟩
  | .aslAbs addr => ⟨.ASL, rfl, .modify .asl (.abs addr) fun _ => rfl⟩
  | .aslAbx base => ⟨.ASL, rfl, .modify .asl (.abx base) fun _ => rfl⟩
  | .lsrAcc => ⟨.LSR, rfl, .shiftA .lsr fun _ => rfl⟩
  | .lsrZp z => ⟨.LSR, rfl, .modify .lsr (.zp z) fun _ => rfl⟩
  | .lsrZpx z => ⟨.LSR, rfl, .modify .lsr (.zpx z) fun _ => rfl⟩
  | .lsrAbs addr => ⟨.LSR, rfl, .modify .lsr (.abs addr) fun _ => rfl⟩
  | .lsrAbx base => ⟨.LSR, rfl, .modify .lsr (.abx base) fun _ => rfl⟩
  | .rolAcc => ⟨.ROL, rfl, .shiftA .rol fun _ => rfl⟩
  | .rolZp z => ⟨.ROL, rfl, .modify .rol (.zp z) fun _ => rfl⟩
  | .rolZpx z => ⟨.ROL, rfl, .modify .rol (.zpx z) fun _ => rfl⟩
  | .rolAbs addr => ⟨.ROL, rfl, .modify .rol (.abs addr) fun _ => rfl⟩
  | .rolAbx base => ⟨.ROL, rfl, .modify .rol (.abx base) fun _ => rfl⟩
  | .rorAcc => ⟨.ROR, rfl, .shiftA .ror fun _ => rfl⟩
  | .rorZp z => ⟨.ROR, rfl, .modify .ror (.zp z) fun _ => rfl⟩
  | .rorZpx z => ⟨.ROR, rfl, .modify .ror (.zpx z) fun _ => rfl⟩
  | .rorAbs addr => ⟨.ROR, rfl, .modify .ror (.abs addr) fun _ => rfl⟩
  | .rorAbx base => ⟨.ROR, rfl, .modify .ror (.abx base) fun _ => rfl⟩
  | .jmpAbs addr => ⟨.JMP, rfl, .jump (.abs addr) fun _ => rfl⟩
  | .jmpInd ptr => ⟨.JMP, rfl, .jump (.ind ptr) fun _ => rfl⟩
  | .jsr addr => ⟨.JSR, rfl, .subroutine (.abs addr) fun _ => rfl⟩
  | .rts => ⟨.RTS, rfl, .implied .rts fun _ => rfl⟩
  | .bcc off => ⟨.BCC, rfl, .branch .bcc off fun _ => rfl⟩
  | .bcs off => ⟨.BCS, rfl, .branch .bcs off fun _ => rfl⟩
  | .beq off => ⟨.BEQ, rfl, .branch .beq off fun _ => rfl⟩
  | .bmi off => ⟨.BMI, rfl, .branch .bmi off fun _ => rfl⟩
  | .bne off => ⟨.BNE, rfl, .branch .bne off fun _ => rfl⟩
  | .bpl off => ⟨.BPL, rfl, .branch .bpl off fun _ => rfl⟩
  | .bvc off => ⟨.BVC, rfl, .branch .bvc off fun _ => rfl⟩
  | .bvs off => ⟨.BVS, rfl, .branch .bvs off fun _ => rfl⟩
  | .brk => ⟨.BRK, rfl, .implied .brk fun _ => rfl⟩
  | .rti => ⟨.RTI, rfl, .implied .rti fun _ => rfl⟩
  | .nop => ⟨.NOP, rfl, .implied .nop fun _ => rfl⟩
  | .clc => ⟨.CLC, rfl, .implied .clc fun _ => rfl⟩
  | .sec => ⟨.SEC, rfl, .implied .sec fun _ => rfl⟩
  | .cli => ⟨.CLI, rfl, .implied .cli fun _ => rfl⟩
  | .sei => ⟨.SEI, rfl, .implied .sei fun _ => rfl⟩
  | .clv => ⟨.CLV, rfl, .implied .clv fun _ => rfl⟩
  | .cld => ⟨.CLD, rfl, .implied .cld fun _ => rfl⟩
  | .sed => ⟨.SED, rfl, .implied .sed fun _ => rfl⟩

end Sys2Proof.Machine
end

section
/-! PROOFS. What a behaviour does not see (10_state R38, R39, R41, R42): the latches, `BRK_STRICT`, the trace, the outputs of the
step and the accesses before it. Every behaviour commutes with a change of these surroundings. -/

namespace Sys2Proof.Machine

/-- The fields that no behaviour reads or writes, and the accesses that were made before it. -/
structure Surroundings where
  irq : Bool
  nmi : Bool
  resetLine : Bool
  brkStrict : Bool
  trace : Bool
  record : Option TraceRecord
  cycles : Nat
  outcome : StepOutcome
  accesses : List Access

/-- The state in given surroundings; its own accesses come after theirs. -/
def State.within (k : Surroundings) (s : State) : State :=
  { s with
    irq := k.irq, nmi := k.nmi, resetLine := k.resetLine, brkStrict := k.brkStrict, trace := k.trace
    record := k.record, cycles := k.cycles, outcome := k.outcome, accesses := k.accesses ++ s.accesses }

/-- The surroundings of a state. -/
def State.surroundings (s : State) : Surroundings :=
  { irq := s.irq, nmi := s.nmi, resetLine := s.resetLine, brkStrict := s.brkStrict, trace := s.trace
    record := s.record, cycles := s.cycles, outcome := s.outcome, accesses := s.accesses }

/-- What a behaviour sees of a state: its surroundings are blank. -/
def State.bare (s : State) : State :=
  { s with
    irq := false, nmi := false, resetLine := false, brkStrict := false, trace := false
    record := none, cycles := 0, outcome := .success, accesses := [] }

/-- A state is what a behaviour sees of it, in its surroundings. -/
theorem State.bare_within (s : State) : s.bare.within s.surroundings = s := by
  simp [State.bare, State.within, State.surroundings]

section
variable (k : Surroundings) (s : State)

@[simp] theorem within_a : (s.within k).a = s.a := rfl
@[simp] theorem within_x : (s.within k).x = s.x := rfl
@[simp] theorem within_y : (s.within k).y = s.y := rfl
@[simp] theorem within_sp : (s.within k).sp = s.sp := rfl
@[simp] theorem within_p : (s.within k).p = s.p := rfl
@[simp] theorem within_pc : (s.within k).pc = s.pc := rfl
@[simp] theorem within_mem : (s.within k).mem = s.mem := rfl
@[simp] theorem within_decimalEnabled : (s.within k).decimalEnabled = s.decimalEnabled := rfl
@[simp] theorem within_flag (f : Flag) : (s.within k).flag f = s.flag f := rfl

@[simp] theorem within_setA (v : Byte) : (s.within k).setA v = (s.setA v).within k := rfl
@[simp] theorem within_setX (v : Byte) : (s.within k).setX v = (s.setX v).within k := rfl
@[simp] theorem within_setY (v : Byte) : (s.within k).setY v = (s.setY v).within k := rfl
@[simp] theorem within_setSp (v : Byte) : (s.within k).setSp v = (s.setSp v).within k := rfl
@[simp] theorem within_setP (v : Byte) : (s.within k).setP v = (s.setP v).within k := rfl
@[simp] theorem within_setPc (v : Word) : (s.within k).setPc v = (s.setPc v).within k := rfl
@[simp] theorem within_setMem (m : Memory) : (s.within k).setMem m = (s.setMem m).within k := rfl
@[simp] theorem within_setStatus (st : Status) : (s.within k).setStatus st = (s.setStatus st).within k := rfl
@[simp] theorem within_setZN (v : Byte) : (s.within k).setZN v = (s.setZN v).within k := rfl
@[simp] theorem within_setFlagTo (f : Flag) (b : Bool) : (s.within k).setFlagTo f b = (s.setFlagTo f b).within k := rfl

/-- An access goes after the surroundings' and the state's own. -/
@[simp] theorem within_log (e : Access) : (s.within k).log e = (s.log e).within k := by
  simp [State.log, State.within]

@[simp] theorem within_memWrite (a : Word) (v : Byte) : memWrite a v (s.within k) = (memWrite a v s).within k := by
  simp [memWrite]

@[simp] theorem within_push (v : Byte) : push v (s.within k) = (push v s).within k := by simp [push]

@[simp] theorem within_push16 (w : Word) : push16 w (s.within k) = (push16 w s).within k := by simp [push16]

@[simp] theorem within_pull_fst : (pull (s.within k)).1 = (pull s).1 := rfl

@[simp] theorem within_pull_snd : (pull (s.within k)).2 = (pull s).2.within k := by simp [pull]

@[simp] theorem within_fetchOperand : fetchOperand (s.within k) = (fetchOperand s).within k := by
  simp [fetchOperand, advance]

theorem within_loadVector (v : Word) : loadVector v (s.within k) = (loadVector v s).within k := by
  simp [loadVector, memRead16]

@[simp] theorem within_enterInterrupt (w : Word) (st : Byte) (v : Word) :
    enterInterrupt w st v (s.within k) = (enterInterrupt w st v s).within k := by
  simp [enterInterrupt, within_loadVector]

@[simp] theorem within_returnFromInterrupt : returnFromInterrupt (s.within k) = (returnFromInterrupt s).within k := by
  simp [returnFromInterrupt, pull16]

@[simp] theorem within_returnFromSubroutine : returnFromSubroutine (s.within k) = (returnFromSubroutine s).within k := by
  simp [returnFromSubroutine, pull16]

end

/-- A resolver's answer, its state in the surroundings. -/
def Resolved.within (k : Surroundings) (r : Resolved) : Resolved := { r with state := r.state.within k }

/-- An operand, its state in the surroundings. -/
def Operand.within (k : Surroundings) (o : Operand) : Operand := { o with state := o.state.within k }

/-- A result with its next state changed; a fault and a refusal stay. -/
def mapNext (f : State → State) : Result → Result
  | .next t => .next (f t)
  | .fault e => .fault e
  | .refused e => .refused e

theorem addrAbs_within (addr : Word) (k : Surroundings) (s : State) :
    addrAbs addr (s.within k) = (addrAbs addr s).within k := by
  simp [addrAbs, Resolved.within]

theorem addrRel_within (off : Byte) (k : Surroundings) (s : State) :
    addrRel off (s.within k) = (addrRel off s).within k := by
  simp [addrRel, Resolved.within]

/-- No resolver sees the surroundings. -/
theorem IsResolver.within {r : State → Resolved} (h : IsResolver r) (k : Surroundings) (s : State) :
    r (s.within k) = (r s).within k := by
  cases h with
  | zp z => simp [addrZp, Resolved.within]
  | zpx z => simp [addrZpx, Resolved.within]
  | zpy z => simp [addrZpy, Resolved.within]
  | abs addr => exact addrAbs_within addr k s
  | abx base => simp [addrAbx, indexed, addrAbs_within, Resolved.within]
  | aby base => simp [addrAby, indexed, addrAbs_within, Resolved.within]
  | ind ptr => simp [addrInd, addrAbs_within, Resolved.within]
  | izx z => simp [addrIzx, memRead16Zp, Resolved.within]
  | izy z => simp [addrIzy, indexed, memRead16Zp, Resolved.within]

theorem readAt_within (k : Surroundings) (r : Resolved) : readAt (r.within k) = (readAt r).within k := by
  simp [readAt, Resolved.within, Operand.within]

theorem IsOperand.within {o : State → Operand} (h : IsOperand o) (k : Surroundings) (s : State) :
    o (s.within k) = (o s).within k := by
  cases h with
  | imm v => simp [operandImm, addrImm, advance, Operand.within]
  | byteAt hr => simp only [hr.within, readAt_within]

/-- Whether the adder refuses (R191) hangs on `P.D` and `DECIMAL_ENABLED` alone. -/
theorem addToA_within (b : Byte) (k : Surroundings) (o : Operand) :
    addToA b (o.within k) = mapNext (State.within k) (addToA b o) := by
  unfold addToA
  rw [apply_ite (mapNext (State.within k))]
  rfl

theorem ReadOp.within {m : Mnemonic} {use : Operand → Result} (h : ReadOp m use) (k : Surroundings) (o : Operand) :
    use (o.within k) = mapNext (State.within k) (use o) := by
  cases h with
  | adc => exact addToA_within o.value k o
  | sbc => exact addToA_within (o.value ^^^ 0xFF) k o
  | lda | ldx | ldy | cmp | cpx | cpy | and | ora | eor | bit => rfl

theorem StoreOp.within {m : Mnemonic} {reg : State → Byte} (h : StoreOp m reg) (k : Surroundings) (s : State) :
    reg (s.within k) = reg s := by
  cases h with
  | sta | stx | sty => rfl

theorem finish_within (crossed : Bool) (k : Surroundings) (s : State) :
    finish crossed (s.within k) = mapNext (State.within k) (finish crossed s) := rfl

theorem storeTo_within (k : Surroundings) (r : Resolved) (v : Byte) :
    storeTo (r.within k) v = mapNext (State.within k) (storeTo r v) := by
  simp [storeTo, Resolved.within, finish_within]

theorem readModifyWrite_within (f : Byte → Byte → Modified) (k : Surroundings) (r : Resolved) :
    readModifyWrite f (r.within k) = mapNext (State.within k) (readModifyWrite f r) := by
  rw [readModifyWrite, readAt_within]
  simp [readModifyWrite, Operand.within, Resolved.within, finish_within]

theorem branch_within (c : Bool) (k : Surroundings) (r : Resolved) :
    branch c (r.within k) = mapNext (State.within k) (branch c r) := by
  cases c with
  | true | false => rfl

theorem jumpToSubroutine_within (k : Surroundings) (r : Resolved) :
    jumpToSubroutine (r.within k) = mapNext (State.within k) (jumpToSubroutine r) := by
  simp [jumpToSubroutine, Resolved.within, finish_within]

theorem ImpliedOp.within {m : Mnemonic} {g : State → State} (h : ImpliedOp m g) (k : Surroundings) (s : State) :
    g (s.within k) = (g s).within k := by
  cases h with
  | pha => exact within_push k s s.a
  | php => exact within_push k s (pushedByProgram s.p)
  | pla => simp
  | plp => simp
  | rts => exact within_returnFromSubroutine k s
  | brk => exact within_enterInterrupt k s (s.pc + 1) (pushedByProgram s.p) irqVector
  | rti => exact within_returnFromInterrupt k s
  | tax | tay | txa | tya | tsx | txs | inx | iny | dex | dey | nop | clc | sec | cli | sei | clv | cld | sed => rfl

/-- A behaviour of any shape answers the same in any surroundings, and leaves them. -/
theorem Behaves.within {m : Mnemonic} {b : State → Result} (h : Behaves m b) (k : Surroundings) (s : State) :
    b (s.within k) = mapNext (State.within k) (b s) := by
  cases h with
  | read hu ho hb => rw [hb, hb, ho.within, hu.within]
  | store hm hr hb => rw [hb, hb, hr.within, hm.within, storeTo_within]
  | modify hf hr hb => rw [hb, hb, hr.within, readModifyWrite_within]
  | shiftA hf hb => rw [hb, hb]; rfl
  | branch hm off hb => rw [hb, hb, addrRel_within, branch_within, within_flag]
  | jump hr hb => rw [hb, hb, hr.within]; rfl
  | subroutine hr hb => rw [hb, hb, hr.within, jumpToSubroutine_within]
  | implied hg hb => rw [hb, hb, hg.within, finish_within]

/-- No instruction sees its surroundings (R38, R39, R41, R42). -/
theorem exec_within (i : Instr) (k : Surroundings) (s : State) :
    exec i (s.within k) = mapNext (State.within k) (exec i s) := by
  obtain ⟨m, -, h⟩ := exec_behaves i
  exact h.within k s

/-- The result of an instruction is that on what it sees of the state, in the state's surroundings. -/
theorem exec_eq_bare (i : Instr) (s : State) : exec i s = mapNext (State.within s.surroundings) (exec i s.bare) := by
  rw [← exec_within, s.bare_within]

end Sys2Proof.Machine
end

section
/-! PROOFS. What a behaviour may write (10_state R24, R29 to R35): the flags, the stack pointer and memory, by the instruction's
mnemonic; and that it keeps what every state must meet. -/

open Sys2Proof.Claims

namespace Sys2Proof.Machine

/-- Every flag of `P` (R28). -/
def allFlags : List Flag := [.C, .Z, .I, .D, .B, .U, .V, .N]

/-- The flags that an instruction with the mnemonic may write. -/
def flagsWritten : Mnemonic → List Flag
  | .ADC | .SBC => [.C, .V, .Z, .N]
  | .CMP | .CPX | .CPY | .ASL | .LSR | .ROL | .ROR => [.C, .Z, .N]
  | .BIT => [.V, .Z, .N]
  | .CLC | .SEC => [.C]
  | .CLI | .SEI | .BRK => [.I]
  | .CLD | .SED => [.D]
  | .CLV => [.V]
  | .PLP | .RTI => allFlags
  | _ => [.Z, .N]

/-- The mnemonics that may move the stack pointer (R24). -/
def spWriters : List Mnemonic := [.PHA, .PHP, .PLA, .PLP, .JSR, .RTS, .RTI, .BRK, .TXS]

/-- The mnemonics that may write memory. -/
def memoryWriters : List Mnemonic :=
  [.STA, .STX, .STY, .INC, .DEC, .ASL, .LSR, .ROL, .ROR, .PHA, .PHP, .JSR, .BRK]

/-- The mnemonics that load `P` whole (R185, R252). -/
def statusLoaders : List Mnemonic := [.PLP, .RTI]

/-! Which flags the flag functions keep (42_flags R140) -/

theorem keepsFlags_refl (p : Byte) (fs : List Flag) : KeepsFlagsBut p p fs := fun _ _ => rfl

theorem keepsFlags_allFlags (p q : Byte) : KeepsFlagsBut p q allFlags := by
  intro f hf
  cases f <;> exact absurd (by decide) hf

theorem keepsFlags_setFlag (p : Byte) (f : Flag) (b : Bool) : KeepsFlagsBut p (setFlag p f b) [f] := by
  intro g hg
  rw [getFlag_setFlag, if_neg (List.ne_of_not_mem_cons hg)]

theorem keepsFlags_setZN (p v : Byte) : KeepsFlagsBut p (setZN p v) [.Z, .N] := by
  intro g hg
  obtain ⟨hz, hn⟩ : g ≠ .Z ∧ g ≠ .N := by simpa using hg
  exact getFlag_setZN_other p v hz hn

theorem keepsFlags_compareFlags (p r m : Byte) : KeepsFlagsBut p (compareFlags p r m) [.C, .Z, .N] := by
  intro g hg
  obtain ⟨hc, hz, hn⟩ : g ≠ .C ∧ g ≠ .Z ∧ g ≠ .N := by simpa using hg
  rw [getFlag_compareFlags, if_neg hn, if_neg hz, if_neg hc]

theorem keepsFlags_shiftFlags (p : Byte) (r : Shifted) : KeepsFlagsBut p (shiftFlags p r) [.C, .Z, .N] := by
  intro g hg
  obtain ⟨hc, hz, hn⟩ : g ≠ .C ∧ g ≠ .Z ∧ g ≠ .N := by simpa using hg
  rw [getFlag_shiftFlags, if_neg hn, if_neg hz, if_neg hc]

theorem keepsFlags_add8Flags (p a b : Byte) (c : Bool) : KeepsFlagsBut p (add8Flags p a b c) [.C, .V, .Z, .N] := by
  intro g hg
  obtain ⟨hc, hv, hz, hn⟩ : g ≠ .C ∧ g ≠ .V ∧ g ≠ .Z ∧ g ≠ .N := by simpa using hg
  rw [add8Flags, getFlag_setZN_other _ _ hz hn, setOverflowOnAddition, getFlag_setFlag, if_neg hv,
    setCarryOnAddition, getFlag_setFlag, if_neg hc]

/-- The two hard-wired bits are the flags B and U (R34, R35). -/
theorem statusHardwired_iff (p : Byte) : statusHardwired p = true ↔ getFlag p .B = false ∧ getFlag p .U = true := by
  simp only [statusHardwired, getFlag, Flag.bit, beq_iff_eq]
  constructor
  · intro h
    have bits := fun i => congrArg (fun w : Byte => w.getLsbD i) h
    exact ⟨by simpa using bits 4, by simpa using bits 5⟩
  · rintro ⟨hb, hu⟩
    apply BitVec.eq_of_getLsbD_eq
    intro i hi
    interval_cases i <;> simp_all

theorem hardwired_of_keepsFlags {p q : Byte} {fs : List Flag} (h : KeepsFlagsBut p q fs) (hB : .B ∉ fs) (hU : .U ∉ fs)
    (hp : statusHardwired p = true) : statusHardwired q = true := by
  rw [statusHardwired_iff] at hp ⊢
  rwa [h .B hB, h .U hU]

/-- A status byte loaded whole has the hard-wired bits, whatever was loaded (R185). -/
theorem loadedStatus_hardwired (v : Byte) : statusHardwired (loadedStatus v) = true := by
  rw [statusHardwired_iff, getFlag_loadedStatus, getFlag_loadedStatus]
  exact ⟨rfl, rfl⟩

/-- Only PLP and RTI write a hard-wired bit. -/
theorem hardwired_not_written {m : Mnemonic} (h : m ∉ statusLoaders) : .B ∉ flagsWritten m ∧ .U ∉ flagsWritten m := by
  revert h
  fun_cases flagsWritten m <;> simp [statusLoaders]

/-- What an instruction with the mnemonic may do, from `s` to `t`. -/
structure Effect (m : Mnemonic) (s t : State) : Prop where
  decimalEnabled : t.decimalEnabled = s.decimalEnabled
  flags : KeepsFlagsBut s.p t.p (flagsWritten m)
  loaded : m ∉ statusLoaders ∨ ∃ v, t.p = loadedStatus v
  sp : m ∈ spWriters ∨ t.sp = s.sp
  mem : m ∈ memoryWriters ∨ t.mem = s.mem
  canonical : s.mem.wf = true → t.mem.wf = true

theorem Effect.hardwired {m : Mnemonic} {s t : State} (h : Effect m s t) (hp : statusHardwired s.p = true) :
    statusHardwired t.p = true := by
  rcases h.loaded with hm | ⟨v, hv⟩
  · obtain ⟨hB, hU⟩ := hardwired_not_written hm
    exact hardwired_of_keepsFlags h.flags hB hU hp
  · rw [hv]
    exact loadedStatus_hardwired v

/-- An effect from a state that differs in `PC` and the accesses, as after a resolver. -/
theorem Effect.of_frame {m : Mnemonic} {s u t : State} {pc : Word} {l : List Access}
    (hu : u = { s with pc := pc, accesses := l }) (h : Effect m u t) : Effect m s t := by
  subst hu
  obtain ⟨hd, hf, hl, hsp, hm, hc⟩ := h
  exact ⟨hd, hf, hl, hsp, hm, hc⟩

/-- The effect of an instruction that writes flags and registers other than the stack pointer. -/
theorem Effect.of_flags {m : Mnemonic} {s t : State} (hf : KeepsFlagsBut s.p t.p (flagsWritten m))
    (hl : m ∉ statusLoaders) (hd : t.decimalEnabled = s.decimalEnabled := by rfl) (hsp : t.sp = s.sp := by rfl)
    (hm : t.mem = s.mem := by rfl) : Effect m s t :=
  ⟨hd, hf, .inl hl, .inr hsp, .inr hm, fun hc => hm ▸ hc⟩

/-- The effect of an instruction that writes flags and one byte of memory. -/
theorem Effect.of_write {m : Mnemonic} {s t : State} {a : Word} {v : Byte}
    (hf : KeepsFlagsBut s.p t.p (flagsWritten m)) (hl : m ∉ statusLoaders) (hw : m ∈ memoryWriters)
    (hd : t.decimalEnabled = s.decimalEnabled) (hsp : t.sp = s.sp) (hm : t.mem = s.mem.write a v) : Effect m s t :=
  ⟨hd, hf, .inl hl, .inr hsp, .inl hw, fun hc => hm ▸ Memory.wf_write s.mem a v hc⟩

/-- The status that a behaviour reports is no part of its effect. -/
theorem Effect.setStatus {m : Mnemonic} {s t : State} {st : Status} (h : Effect m s t) : Effect m s (t.setStatus st) := by
  obtain ⟨hd, hf, hl, hsp, hm, hc⟩ := h
  exact ⟨hd, hf, hl, hsp, hm, hc⟩

/-- A result that is no fault, and whose next state, if it is one, meets `Q`. -/
def Ends (Q : State → Prop) : Result → Prop
  | .next t => Q t
  | .fault _ => False
  | .refused _ => True

theorem Ends.imp {Q R : State → Prop} {r : Result} (hr : Ends Q r) (h : ∀ t, Q t → R t) : Ends R r := by
  cases r with
  | next t => exact h t hr
  | fault e => exact hr
  | refused e => trivial

/-! The effect of each shape -/

/-- A resolver moves `PC` and makes reads, nothing else. -/
theorem IsResolver.frame {r : State → Resolved} (h : IsResolver r) (s : State) : ∃ width, ResolverFrame (r s) s width := by
  cases h with
  | zp z => exact ⟨1, addrZp_frame z s⟩
  | zpx z => exact ⟨1, addrZpx_frame z s⟩
  | zpy z => exact ⟨1, addrZpy_frame z s⟩
  | abs addr => exact ⟨2, addrAbs_frame addr s⟩
  | abx base => exact ⟨2, addrAbx_frame base s⟩
  | aby base => exact ⟨2, addrAby_frame base s⟩
  | ind ptr => exact ⟨2, addrInd_frame ptr s⟩
  | izx z => exact ⟨1, addrIzx_frame z s⟩
  | izy z => exact ⟨1, addrIzy_frame z s⟩

theorem IsOperand.frame {o : State → Operand} (h : IsOperand o) (s : State) : ∃ width, OperandFrame (o s) s width := by
  cases h with
  | imm v => exact ⟨1, operandImm_frame v s⟩
  | byteAt hr =>
    obtain ⟨width, h⟩ := hr.frame s
    exact ⟨width, readAt_frame h⟩

theorem keepsFlags_bitTest (p : Byte) (z n v : Bool) :
    KeepsFlagsBut p (setFlag (setFlag (setFlag p .Z z) .N n) .V v) [.V, .Z, .N] := by
  intro g hg
  obtain ⟨hv, hz, hn⟩ : g ≠ .V ∧ g ≠ .Z ∧ g ≠ .N := by simpa using hg
  rw [getFlag_setFlag, if_neg hv, getFlag_setFlag, if_neg hn, getFlag_setFlag, if_neg hz]

/-- The adder refuses (R191), or writes `A` and its four flags (R146). -/
theorem addToA_effect {m : Mnemonic} (b : Byte) (o : Operand) (hf : flagsWritten m = [.C, .V, .Z, .N])
    (hl : m ∉ statusLoaders) : Ends (Effect m o.state) (addToA b o) := by
  unfold addToA
  split
  · trivial
  · exact .of_flags (hf ▸ keepsFlags_add8Flags _ _ _ _) hl

theorem ReadOp.effect {m : Mnemonic} {use : Operand → Result} (h : ReadOp m use) (o : Operand) :
    Ends (Effect m o.state) (use o) := by
  cases h with
  | adc => exact addToA_effect o.value o rfl (by decide)
  | sbc => exact addToA_effect (o.value ^^^ 0xFF) o rfl (by decide)
  | cmp | cpx | cpy => exact Effect.of_flags (keepsFlags_compareFlags _ _ _) (by decide)
  | bit => exact Effect.of_flags (keepsFlags_bitTest _ _ _ _) (by decide)
  | lda | ldx | ldy | and | ora | eor => exact Effect.of_flags (keepsFlags_setZN _ _) (by decide)

theorem StoreOp.effect {m : Mnemonic} {reg : State → Byte} (h : StoreOp m reg) (r : Resolved) (v : Byte) :
    Ends (Effect m r.state) (storeTo r v) := by
  rw [storeTo_eq]
  cases h with
  | sta | stx | sty => exact Effect.of_write (keepsFlags_refl _ _) (by decide) (by decide) rfl rfl rfl

theorem ModifyOp.flags {m : Mnemonic} {f : Byte → Byte → Modified} (h : ModifyOp m f) (v p : Byte) :
    KeepsFlagsBut p (f v p).p (flagsWritten m) := by
  cases h with
  | inc | dec => exact keepsFlags_setZN _ _
  | asl | lsr | rol | ror => exact keepsFlags_shiftFlags _ _

theorem ModifyOp.writesMemory {m : Mnemonic} {f : Byte → Byte → Modified} (h : ModifyOp m f) : m ∈ memoryWriters := by
  cases h with
  | inc | dec | asl | lsr | rol | ror => decide

theorem ModifyOp.loadsNoStatus {m : Mnemonic} {f : Byte → Byte → Modified} (h : ModifyOp m f) :
    m ∉ statusLoaders := by
  cases h with
  | inc | dec | asl | lsr | rol | ror => decide

theorem ModifyOp.effect {m : Mnemonic} {f : Byte → Byte → Modified} (h : ModifyOp m f) (r : Resolved) :
    Ends (Effect m r.state) (readModifyWrite f r) := by
  rw [readModifyWrite_eq]
  exact Effect.of_write (h.flags _ _) h.loadsNoStatus h.writesMemory rfl rfl rfl

theorem ModifyOp.effect_shiftA {m : Mnemonic} {f : Byte → Byte → Modified} (h : ModifyOp m f) (s : State) :
    Ends (Effect m s) (accumulatorShift f s) :=
  Effect.of_flags (h.flags _ _) h.loadsNoStatus

/-- JSR's pushes (R231). -/
theorem jumpToSubroutine_effect (r : Resolved) : Ends (Effect .JSR r.state) (jumpToSubroutine r) := by
  rw [jumpToSubroutine, push16_eq]
  exact ⟨rfl, keepsFlags_refl _ _, .inl (by decide), .inl (by decide),
    .inl (by decide), fun hc => Memory.wf_write _ _ _ (Memory.wf_write _ _ _ hc)⟩

theorem entryMemory_wf (w : Word) (st : Byte) {s : State} (h : s.mem.wf = true) : (entryMemory w st s).wf = true :=
  Memory.wf_write _ _ _ (Memory.wf_write _ _ _ (Memory.wf_write _ _ _ h))

theorem ImpliedOp.effect {m : Mnemonic} {g : State → State} (h : ImpliedOp m g) (s : State) : Effect m s (g s) := by
  cases h with
  | tax | tay | txa | tya | tsx | inx | iny | dex | dey => exact .of_flags (keepsFlags_setZN _ _) (by decide)
  | clc | sec | cli | sei | clv | cld | sed => exact .of_flags (keepsFlags_setFlag _ _ _) (by decide)
  | nop => exact .of_flags (keepsFlags_refl _ _) (by decide)
  | txs =>
    exact ⟨rfl, keepsFlags_refl _ _, .inl (by decide), .inl (by decide), .inr rfl, id⟩
  | pha | php =>
    exact ⟨rfl, keepsFlags_refl _ _, .inl (by decide), .inl (by decide),
      .inl (by decide), Memory.wf_write _ _ _⟩
  | pla =>
    exact ⟨rfl, keepsFlags_setZN _ _, .inl (by decide), .inl (by decide), .inr rfl, id⟩
  | plp =>
    exact ⟨rfl, keepsFlags_allFlags _ _, .inr ⟨_, rfl⟩, .inl (by decide),
      .inr rfl, id⟩
  | rti =>
    rw [returnFromInterrupt_eq]
    exact ⟨rfl, keepsFlags_allFlags _ _, .inr ⟨_, rfl⟩, .inl (by decide),
      .inr rfl, id⟩
  | rts =>
    rw [returnFromSubroutine_eq]
    exact ⟨rfl, keepsFlags_refl _ _, .inl (by decide), .inl (by decide), .inr rfl, id⟩
  | brk =>
    dsimp only
    rw [enterInterrupt_eq]
    exact ⟨rfl, keepsFlags_setFlag _ _ _, .inl (by decide), .inl (by decide),
      .inl (by decide), entryMemory_wf _ _⟩

theorem BranchOp.loadsNoStatus {m : Mnemonic} {f : Flag} {v : Bool} (h : BranchOp m f v) : m ∉ statusLoaders := by
  cases h with
  | bcc | bcs | beq | bmi | bne | bpl | bvc | bvs => decide

theorem BranchOp.effect {m : Mnemonic} {f : Flag} {v : Bool} (h : BranchOp m f v) (c : Bool) (r : Resolved) :
    Ends (Effect m r.state) (branch c r) := by
  cases c with
  | true | false => exact Effect.of_flags (keepsFlags_refl _ _) h.loadsNoStatus

/-- A behaviour of any shape does no more than its mnemonic allows, and is no fault. -/
theorem Behaves.effect {m : Mnemonic} {b : State → Result} (h : Behaves m b) (s : State) : Ends (Effect m s) (b s) := by
  cases h with
  | read hu ho hb =>
    obtain ⟨width, frame⟩ := ho.frame s
    rw [hb]
    exact (hu.effect _).imp fun t => Effect.of_frame frame
  | store hm hr hb =>
    obtain ⟨width, frame⟩ := hr.frame s
    rw [hb]
    exact (hm.effect _ _).imp fun t => Effect.of_frame frame
  | modify hf hr hb =>
    obtain ⟨width, frame⟩ := hr.frame s
    rw [hb]
    exact (hf.effect _).imp fun t => Effect.of_frame frame
  | shiftA hf hb =>
    rw [hb]
    exact hf.effect_shiftA s
  | branch hm off hb =>
    rw [hb]
    exact (hm.effect _ _).imp fun t => Effect.of_frame (addrRel_frame off s)
  | jump hr hb =>
    obtain ⟨width, frame⟩ := hr.frame s
    rw [hb]
    exact Effect.of_frame frame (.of_flags (keepsFlags_refl _ _) (by decide))
  | subroutine hr hb =>
    obtain ⟨width, frame⟩ := hr.frame s
    rw [hb]
    exact (jumpToSubroutine_effect _).imp fun t => Effect.of_frame frame
  | implied hg hb =>
    rw [hb]
    exact (hg.effect s).setStatus

/-- What an instruction that completes may have done, by its mnemonic. -/
theorem exec_effect {i : Instr} {s t : State} (h : exec i s = .next t) : ∃ m, mnemonicOf i = some m ∧ Effect m s t := by
  obtain ⟨m, hm, hb⟩ := exec_behaves i
  have e := hb.effect s
  rw [h] at e
  exact ⟨m, hm, e⟩

/-- No instruction faults: the one fault is `step`'s (R103). -/
theorem exec_ne_fault (i : Instr) (s : State) (f : Fault) : exec i s ≠ .fault f := by
  intro h
  obtain ⟨m, -, hb⟩ := exec_behaves i
  have e := hb.effect s
  rwa [h] at e

end Sys2Proof.Machine
end

section
/-! PROOFS. The statements about all instructions (10_state R24 to R42): which of them write what, and that none touches a latch,
a configuration input or an output. -/

open Sys2Proof.Claims

namespace Sys2Proof.Machine

/-- An instruction that completes leaves its surroundings as they were (R38, R39, R41, R42). -/
theorem exec_keeps_surroundings {i : Instr} {s t : State} (h : exec i s = .next t) :
    ∃ u, exec i s.bare = .next u ∧ t = u.within s.surroundings := by
  rw [exec_eq_bare] at h
  cases hb : exec i s.bare with
  | next u =>
    rw [hb] at h
    exact ⟨u, rfl, (Host.Outcome.next.inj h).symm⟩
  | fault e => rw [hb] at h; cases h
  | refused e => rw [hb] at h; cases h

/-- Settles O59: a behaviour answers the same whatever its surroundings, and the latches are a part of them. -/
theorem noInstructionTouchesLatchesOrInputs : Obligations.NoInstructionTouchesLatchesOrInputs := by
  intro i s t h
  obtain ⟨m, -, effect⟩ := exec_effect h
  obtain ⟨u, hu, rfl⟩ := exec_keeps_surroundings h
  refine ⟨rfl, rfl, rfl, rfl, rfl, effect.decimalEnabled, rfl, rfl, rfl, fun x y z => ?_⟩
  rw [exec_eq_bare]
  exact congrArg (mapNext _) hu

/-- A flag that changed is one that the mnemonic may write. -/
theorem Effect.mem_flagsWritten {m : Mnemonic} {s t : State} (h : Effect m s t) {f : Flag}
    (hf : getFlag t.p f ≠ getFlag s.p f) : f ∈ flagsWritten m := by
  by_contra hn
  exact hf (h.flags f hn)

/-- Settles O60: what the behaviour of an instruction may do is fixed by its mnemonic. -/
theorem whoWritesWhat : Obligations.WhoWritesWhat := by
  intro i s t h
  obtain ⟨m, hm, effect⟩ := exec_effect h
  rw [hm]
  refine ⟨fun hf => ?V, fun hf => ?D, fun hf => ?I, fun hf => ?C, fun hf => ?B, fun hf => ?U, fun hsp => ?sp, ?mem⟩
  case V | D | I | C | B | U =>
    have written := effect.mem_flagsWritten hf
    revert written
    fun_cases flagsWritten m <;> simp
  case sp => exact List.mem_map_of_mem (f := some) (effect.sp.resolve_right hsp)
  case mem =>
    rintro ⟨b, hb⟩
    refine List.mem_map_of_mem (f := some) (effect.mem.resolve_right fun same => hb ?_)
    rw [same]

end Sys2Proof.Machine
end

section
/-! PROOFS. The two ways a step goes on from its trace snapshot (40_engine R103, R104), and the invariant through each of its
parts (10_state R20, R37). -/

open Sys2Proof.Claims

namespace Sys2Proof.Machine

/-- The state of a step after its trace snapshot (R102), `PC` still at the opcode. -/
def beforeDispatch (s : State) : State := fillRecord (fetched s) (fetchOpcode (atFetch s)).2

/-- A step on a byte with no ROM entry (R103). -/
theorem step_of_error {s : State} {e : DecodeError} (h : decode (fetchBytes (atFetch s)) = .error e) :
    step s = .fault (unimplemented (fetched s) (beforeDispatch s)) := by
  unfold atFetch at h
  simp only [step, h]
  rfl

/-- A step on an instruction (R104, R106): its behaviour past the opcode, then the end of the step. -/
theorem step_of_ok {s : State} {i : Instr} {rest : List Byte} (h : decode (fetchBytes (atFetch s)) = .ok i rest) :
    step s = mapNext (endStep (fetched s)) (exec i (advance (beforeDispatch s))) := by
  unfold atFetch at h
  simp only [step, h]
  rfl

theorem beginStep_inv {s : State} (h : s.Inv) : (beginStep s).Inv :=
  h.of_fields_eq rfl rfl rfl rfl

/-- An interrupt entry pushes three bytes and sets `P.I` (R280). -/
theorem interruptSequence_inv (vector : Word) {s : State} (h : s.Inv) : (interruptSequence vector s).Inv := by
  obtain ⟨hp, hmem, hrecord⟩ := h
  rw [interruptSequence, enterInterrupt_eq]
  exact ⟨hardwired_of_keepsFlags (keepsFlags_setFlag s.p .I true) (by decide) (by decide) hp, entryMemory_wf _ _ hmem, hrecord⟩

theorem checkInterrupts_inv {s : State} (h : s.Inv) : (checkInterrupts s).Inv := by
  unfold checkInterrupts
  split
  · rw [loadVector_eq]
    exact h.of_fields_eq rfl rfl rfl rfl
  split
  · exact (interruptSequence_inv nmiVector h).of_fields_eq rfl rfl rfl rfl
  split
  · exact (interruptSequence_inv irqVector h).of_fields_eq rfl rfl rfl rfl
  · exact h

/-- The snapshot leaves a record only while `TRACE` is true (R20). -/
theorem fillRecord_inv (op : Byte) {s : State} (h : s.Inv) : (fillRecord op s).Inv := by
  obtain ⟨hp, hmem, -⟩ := h
  cases on : s.trace with
  | false =>
    rw [fillRecord_off op on]
    exact ⟨hp, hmem, fun _ => rfl⟩
  | true =>
    rw [fillRecord_frame]
    exact ⟨hp, hmem, fun off => absurd (on.symm.trans off) (by decide)⟩

theorem beforeDispatch_inv {s : State} (h : s.Inv) : (beforeDispatch s).Inv := by
  have fetch : (atFetch s).Inv := checkInterrupts_inv (beginStep_inv h)
  exact fillRecord_inv _ (fetch.of_fields_eq rfl rfl rfl rfl)

/-- Every instruction that completes keeps the invariant: it loads or keeps the hard-wired bits, writes memory through the port,
and leaves `TRACE` and the record. -/
theorem exec_inv {i : Instr} {s t : State} (h : s.Inv) (ht : exec i s = .next t) : t.Inv := by
  obtain ⟨hp, hmem, hrecord⟩ := h
  obtain ⟨m, -, effect⟩ := exec_effect ht
  obtain ⟨u, -, rfl⟩ := exec_keeps_surroundings ht
  exact ⟨effect.hardwired hp, effect.canonical hmem, hrecord⟩

/-- The state that a result leaves, if it leaves one, meets `Q` (R111). -/
def Leaves (Q : State → Prop) : Result → Prop
  | .next t => Q t
  | .fault f => Q (stateAfterFault f)
  | .refused _ => True

theorem Leaves.next_and_fault {Q : State → Prop} {r : Result} (h : Leaves Q r) :
    (∀ t, r = .next t → Q t) ∧ (∀ f, r = .fault f → Q (stateAfterFault f)) := by
  constructor
  · rintro t rfl
    exact h
  · rintro f rfl
    exact h

/-- Settles O9, by the parts of a step: the check, the fetch and the snapshot keep the invariant, a fault leaves their state, and
the behaviour of a decoded instruction keeps it further. -/
theorem stepKeepsTheInvariant : Obligations.StepKeepsTheInvariant := by
  intro s h
  have dispatch := beforeDispatch_inv h
  apply Leaves.next_and_fault
  cases hd : decode (fetchBytes (atFetch s)) with
  | error e =>
    rw [step_of_error hd]
    exact dispatch.of_fields_eq rfl rfl rfl rfl
  | ok i rest =>
    rw [step_of_ok hd]
    have past : (advance (beforeDispatch s)).Inv := dispatch.of_fields_eq rfl rfl rfl rfl
    cases hx : exec i (advance (beforeDispatch s)) with
    | next u => exact (exec_inv past hx).of_fields_eq rfl rfl rfl rfl
    | fault f => exact absurd hx (exec_ne_fault i _ f)
    | refused r => trivial

/-- Settles O10: the reset values meet the invariant. -/
theorem resetMeetsTheInvariant : Obligations.ResetMeetsTheInvariant :=
  ⟨by decide, by decide, fun _ => rfl⟩

/-- Settles O12, by induction on how the state is reached: reset meets the invariant, and events, steps and the steps that fault
keep it. -/
theorem reachableStatesMeetTheInvariant : Obligations.ReachableStatesMeetTheInvariant := by
  intro s h
  induction h with
  | reset => exact resetMeetsTheInvariant
  | host e hwf _ ih => exact hostEventsKeepTheInvariant e _ hwf ih
  | step _ hnext ih => exact (stepKeepsTheInvariant _ ih).1 _ hnext
  | resume f _ hfault ih => exact (stepKeepsTheInvariant _ ih).2 f hfault

/-- Settles O14: the reset state is the model's `reset()` of a memory with no byte listed. -/
theorem resetState : Obligations.ResetState :=
  ⟨rfl, rfl, by decide, rfl, rfl, rfl, rfl, rfl, by decide⟩

end Sys2Proof.Machine
end

section
/-! PROOFS. The trace has no effect (10_state R41): two states that differ in `TRACE`, the record and the port's record go through
each part of a step alike. -/

open Sys2Proof.Claims

namespace Sys2Proof.Machine

theorem sameButTrace_iff {s t : State} :
    SameButTrace s t ↔ ∃ trace record accesses, t = { s with trace := trace, record := record, accesses := accesses } := by
  constructor
  · exact fun h => ⟨_, _, _, h⟩
  · rintro ⟨trace, record, accesses, rfl⟩
    rfl

theorem sameButTrace_ite {c : Prop} [Decidable c] {s t s' t' : State} (h : SameButTrace s t) (h' : SameButTrace s' t') :
    SameButTrace (if c then s else s') (if c then t else t') := by
  split
  · exact h
  · exact h'

/-- The interrupt check decides by the latches and `P.I`, which are the same, and each entry leaves the trace (R277). -/
theorem sameButTrace_atFetch {s t : State} (h : SameButTrace s t) : SameButTrace (atFetch s) (atFetch t) := by
  obtain ⟨trace, record, accesses, rfl⟩ := sameButTrace_iff.1 h
  unfold atFetch checkInterrupts
  exact sameButTrace_ite rfl (sameButTrace_ite rfl (sameButTrace_ite rfl rfl))

theorem sameButTrace_fetchOpcode {s t : State} (h : SameButTrace s t) : SameButTrace (fetchOpcode s).2 (fetchOpcode t).2 := by
  obtain ⟨trace, record, accesses, rfl⟩ := sameButTrace_iff.1 h
  rfl

theorem sameButTrace_fillRecord (op : Byte) {s t : State} (h : SameButTrace s t) :
    SameButTrace (fillRecord op s) (fillRecord op t) := by
  obtain ⟨trace, record, accesses, rfl⟩ := sameButTrace_iff.1 h
  unfold fillRecord
  split <;> split <;> rfl

theorem fetchBytes_eq_of_sameButTrace {s t : State} (h : SameButTrace s t) : fetchBytes t = fetchBytes s := by
  rw [h]
  rfl

theorem fetched_eq_of_sameButTrace {s t : State} (h : SameButTrace s t) : fetched t = fetched s := by
  have hc := sameButTrace_atFetch h
  unfold fetched
  rw [hc]

theorem sameButTrace_beforeDispatch {s t : State} (h : SameButTrace s t) :
    SameButTrace (beforeDispatch s) (beforeDispatch t) := by
  unfold beforeDispatch
  rw [fetched_eq_of_sameButTrace h]
  exact sameButTrace_fillRecord _ (sameButTrace_fetchOpcode (sameButTrace_atFetch h))

theorem sameButTrace_advance {s t : State} (h : SameButTrace s t) : SameButTrace (advance s) (advance t) := by
  obtain ⟨trace, record, accesses, rfl⟩ := sameButTrace_iff.1 h
  rfl

/-- The trace is a part of an instruction's surroundings, which it does not see. -/
theorem sameButTrace_behaviour (op : Byte) (i : Instr) {s t : State} (h : SameButTrace s t) :
    ResultSameButTrace (mapNext (endStep op) (exec i s)) (mapNext (endStep op) (exec i t)) := by
  obtain ⟨trace, record, accesses, rfl⟩ := sameButTrace_iff.1 h
  rw [exec_eq_bare i s, exec_eq_bare i { s with trace := trace, record := record, accesses := accesses }]
  change ResultSameButTrace _ (mapNext _ (mapNext _ (exec i s.bare)))
  cases hx : exec i s.bare with
  | next u => rfl
  | fault f => exact absurd hx (exec_ne_fault i _ f)
  | refused r => rfl

/-- Settles O23, by the parts of a step: what is fetched and decoded is the same, and so is what is executed. -/
theorem traceDoesNotInterfere : Obligations.TraceDoesNotInterfere := by
  intro s t h
  have bytes := fetchBytes_eq_of_sameButTrace (sameButTrace_atFetch h)
  have opcode := fetched_eq_of_sameButTrace h
  have dispatch := sameButTrace_beforeDispatch h
  cases hd : decode (fetchBytes (atFetch s)) with
  | error e =>
    rw [step_of_error hd, step_of_error (bytes ▸ hd), opcode]
    refine ⟨rfl, ?_⟩
    rw [dispatch]
    rfl
  | ok i rest =>
    rw [step_of_ok hd, step_of_ok (bytes ▸ hd), opcode]
    exact sameButTrace_behaviour _ i (sameButTrace_advance dispatch)

end Sys2Proof.Machine
end

section
/-! PROOFS. The stack and word reads (20_memory R55 to R59), and a store that the next fetch sees (R66, R69). -/

open Sys2Proof.Claims

namespace Sys2Proof.Machine

/-! The stack -/

/-- Lowering `SP` by one wraps modulo 256 (R57). -/
theorem byte_sub_one_toNat (b : Byte) : (b - 1).toNat = (b.toNat + 255) % 256 := by bv_omega

/-- Raising `SP` by one wraps modulo 256 (R58). -/
theorem byte_add_one_toNat (b : Byte) : (b + 1).toNat = (b.toNat + 1) % 256 := BitVec.toNat_add b 1

/-- `Push` stores its byte in the slot of `SP` and nowhere else. -/
theorem push_storesAt (v : Byte) (s : State) : StoresAt s (push v s) (stackSlot s.sp) v :=
  ⟨Memory.read_write_self _ _ _, fun _ => Memory.read_write_other _ _⟩

/-- `Pull16` ends at the two slots that `Push16` began with: each `SP + 1` undoes one `SP - 1`, at any `SP`. -/
theorem pull16_push16 (w : Word) (s : State) :
    (pull16 (push16 w s)).1 = w ∧ (pull16 (push16 w s)).2.sp = s.sp := by
  have back1 : s.sp - 1 - 1 + 1 = s.sp - 1 := BitVec.sub_add_cancel _ _
  have back2 : s.sp - 1 + 1 = s.sp := BitVec.sub_add_cancel _ _
  have apart : stackSlot s.sp ≠ stackSlot (s.sp - 1) := by
    rw [ne_eq, stackSlot_inj]
    bv_omega
  rw [pull16_eq, push16_eq]
  dsimp only
  rw [back1, back2, Memory.read_write_self, Memory.read_write_other _ _ apart, Memory.read_write_self]
  exact ⟨mkWord_hi_lo w, rfl⟩

/-- Settles O26: the wraps of `SP`, the store and the round trip are the lemmas above; the accesses, the byte pulled and the
frames are as the operations are defined. -/
theorem stackPushAndPull : Obligations.StackPushAndPull := by
  intro s v w
  obtain ⟨word, sp⟩ := pull16_push16 w s
  exact ⟨stackSlot_toNat s.sp, push_storesAt v s, byte_sub_one_toNat s.sp, rfl, rfl,
    byte_add_one_toNat s.sp, rfl, rfl, rfl, rfl, rfl, rfl, word, sp⟩

/-! Word reads -/

/-- The address after `a`, modulo 65536. -/
theorem ofNat_toNat_add_one (a : Word) : BitVec.ofNat 16 (a.toNat + 1) = a + 1 := by bv_omega

/-- A page-zero address, from its byte's number. -/
theorem ofNat_toNat_eq_zeroPage (z : Byte) : BitVec.ofNat 16 z.toNat = zeroPage z := by
  rw [← zeroPage_toNat, BitVec.ofNat_toNat, BitVec.setWidth_eq]

/-- Settles O27: the word is low byte then high byte, and the second address wraps in its own width. -/
theorem wordReadsAreLittleEndian : Obligations.WordReadsAreLittleEndian := by
  intro s a z
  rw [memRead16_eq, memRead16Zp_eq, ofNat_toNat_add_one, ← byte_add_one_toNat, ofNat_toNat_eq_zeroPage,
    ofNat_toNat_eq_zeroPage]
  exact ⟨mkWord_toNat _ _, rfl, mkWord_toNat _ _, rfl⟩

/-! A step that services no interrupt, and the store of a write instruction -/

/-- With no interrupt to service, the check changes nothing (R277). -/
theorem checkInterrupts_of_noInterrupt {s : State} (h : NoInterrupt s) : checkInterrupts s = s := by
  obtain ⟨hreset, hnmi, hirq⟩ := h
  have masked : ¬(s.irq && !s.flag .I) = true := by
    rcases hirq with off | set
    · simp [off]
    · simp [set]
  rw [checkInterrupts, if_neg (by simp [hreset]), if_neg (by simp [hnmi]), if_neg masked]

/-- A step that services no interrupt fetches from the state as it stands, its outputs cleared (R100, R101). -/
theorem atFetch_of_noInterrupt {s : State} (h : NoInterrupt s) : atFetch s = beginStep s :=
  checkInterrupts_of_noInterrupt (s := beginStep s) h

theorem fetchBytes_atFetch_of_noInterrupt {s : State} (h : NoInterrupt s) : fetchBytes (atFetch s) = fetchBytes s := by
  rw [atFetch_of_noInterrupt h]
  rfl

theorem fetched_of_noInterrupt {s : State} (h : NoInterrupt s) : fetched s = s.mem.read s.pc := by
  rw [fetched, atFetch_of_noInterrupt h]
  rfl

/-- A step that services no interrupt runs the instruction at `PC`, on a state that differs from the one before the step in
`PC`, the outputs and the trace record only (R100 to R106). -/
theorem step_of_noInterrupt {s : State} {i : Instr} {rest : List Byte} (h : NoInterrupt s)
    (hdecode : decode (fetchBytes s) = .ok i rest) :
    ∃ record accesses, step s = mapNext (endStep (fetched s))
      (exec i (advance { beginStep s with record := record, accesses := accesses })) := by
  have before : beforeDispatch s =
      { beginStep s with record := (beforeDispatch s).record, accesses := (beforeDispatch s).accesses } := by
    unfold beforeDispatch
    rw [fillRecord_frame, atFetch_of_noInterrupt h]
    rfl
  rw [← fetchBytes_atFetch_of_noInterrupt h] at hdecode
  exact ⟨_, _, before ▸ step_of_ok hdecode⟩

/-- A write instruction completes with its register stored at its resolver's address (R113). -/
theorem storesByte_of_storeTo {i : Instr} {s : State} {r : Resolved} {width : Word} {v : Byte}
    (hexec : exec i s = storeTo r v) (hframe : ResolverFrame r s width) : StoresByte i s r width v := by
  refine ⟨_, hexec.trans (storeTo_eq r v), ⟨Memory.read_write_self _ _ _, fun b hb => ?other⟩, ?pc, rfl, rfl, ?frame⟩
  case other => rw [Memory.read_write_other _ _ hb, hframe]
  case pc | frame => rw [hframe]

/-- Settles O28: the store's one write is at the place where the next step, which services no interrupt either, fetches. -/
theorem storeIsSeenByTheNextFetch : Obligations.StoreIsSeenByTheNextFetch := by
  intro s t hreset hnmi hirq hdecode hstep
  have quiet : NoInterrupt s := ⟨hreset, hnmi, .inl hirq⟩
  obtain ⟨record, accesses, hs⟩ := step_of_noInterrupt quiet hdecode
  obtain ⟨u, hu, ⟨stored, others⟩, hpc, -, -, frame⟩ :=
    storesByte_of_storeTo (i := .staAbs (s.pc + 3)) rfl
      (addrAbs_frame (s.pc + 3) (advance { beginStep s with record := record, accesses := accesses }))
  rw [hs, hu] at hstep
  obtain rfl := Host.Outcome.next.inj hstep
  have pastStore : u.pc = s.pc + 3 := hpc.trans (BitVec.add_assoc s.pc 1 2)
  have quietAfter : NoInterrupt (endStep (fetched s) u) := by rwa [frame]
  refine ⟨?fetched, pastStore, others⟩
  case fetched =>
    calc fetched (endStep (fetched s) u)
        = u.mem.read u.pc := fetched_of_noInterrupt quietAfter
      _ = u.mem.read (s.pc + 3) := by rw [pastStore]
      _ = s.a := stored

end Sys2Proof.Machine
end

section
/-! PROOFS. The decoder and the encoder (30_encoding R80 to R91): what `decode` accepts, said once over the three formats of R81;
the ROM's slots and the encoder, each held against the other; the round trip, the fetch and the tables from these. -/

open Sys2Proof.Machine Sys2Proof.Claims

namespace Sys2Proof

/-! What the decoder accepts -/

/-- A format, the operand bytes it takes and the instruction they complete (R81: the low operand byte first). -/
inductive Format.Completes : Format → List Byte → Instr → Prop where
  | f1 (i : Instr) : Completes (.f1 i) [] i
  | f2 (i : Byte → Instr) (b : Byte) : Completes (.f2 i) [b] (i b)
  | f3 (i : Word → Instr) (w : Word) : Completes (.f3 i) [lo w, hi w] (i w)

/-- No format takes more than two operand bytes (R81). -/
theorem Format.Completes.length_le_two {f : Format} {operands : List Byte} {i : Instr} (h : f.Completes operands i) :
    operands.length ≤ 2 := by
  cases h <;> simp

/-- `decodeOperands` takes the operand bytes of the format off the front of the bytes given, whatever the opcode. -/
theorem decodeOperands_eq_ok_iff (op : Byte) (f : Format) (bs : List Byte) (i : Instr) (rest : List Byte) :
    decodeOperands op f bs = .ok i rest ↔ ∃ operands, f.Completes operands i ∧ bs = operands ++ rest := by
  constructor
  case mp =>
    intro h
    match f, bs, h with
    | .f1 i, _, rfl => exact ⟨[], .f1 i, rfl⟩
    | .f2 i, b :: _, rfl => exact ⟨[b], .f2 i b, rfl⟩
    | .f3 i, low :: high :: _, rfl =>
      have word := Format.Completes.f3 i (mkWord high low)
      rw [lo_mkWord, hi_mkWord] at word
      exact ⟨[low, high], word, rfl⟩
  case mpr =>
    rintro ⟨operands, completes, rfl⟩
    cases completes with
    | f1 | f2 b => rfl
    | f3 i w => exact congrArg (fun v => Decoded.ok (i v) rest) (mkWord_hi_lo w)

/-- `decode` accepts exactly a byte with a ROM entry, the operand bytes of its format, and a rest (R80, R84). -/
theorem decode_eq_ok_iff (bs : List Byte) (i : Instr) (rest : List Byte) :
    decode bs = .ok i rest ↔
      ∃ op e operands, rom op = some e ∧ e.format.Completes operands i ∧ bs = op :: operands ++ rest := by
  constructor
  case mp =>
    intro h
    cases bs with
    | nil => cases h
    | cons op bs =>
      rw [decode_cons] at h
      cases hrom : rom op with
      | none =>
        rw [hrom] at h
        cases h
      | some e =>
        rw [hrom] at h
        obtain ⟨operands, completes, rfl⟩ := (decodeOperands_eq_ok_iff op e.format bs i rest).1 h
        exact ⟨op, e, operands, hrom, completes, rfl⟩
  case mpr =>
    rintro ⟨op, e, operands, hrom, completes, rfl⟩
    rw [List.cons_append, decode_cons, hrom]
    exact (decodeOperands_eq_ok_iff op e.format _ i rest).2 ⟨operands, completes, rfl⟩

/-! The encoder against the ROM -/

/-- Every instruction stands in the slot of its encoding's byte 0, which takes the other bytes as its operand. -/
theorem encode_has_slot (i : Instr) :
    ∃ op operands, encode i = op :: operands ∧ ∃ e, rom op = some e ∧ e.format.Completes operands i := by
  cases i <;> exact ⟨_, _, rfl, _, rfl, by constructor⟩

/-- What a slot's operand bytes complete is encoded as the slot's byte 0 and these bytes. -/
def SlotEncodes (op : Nat) (slot : Option RomEntry) : Prop :=
  ∀ e operands i, slot = some e → e.format.Completes operands i → encode i = BitVec.ofNat 8 op :: operands

@[simp] theorem slotEncodes_none (op : Nat) : SlotEncodes op none := fun _ _ _ h => nomatch h

@[simp] theorem slotEncodes_one (op : Nat) (m : Mnemonic) (a : Mode) (i : Instr) :
    SlotEncodes op (one m a i) ↔ encode i = [BitVec.ofNat 8 op] :=
  ⟨fun h => h _ _ _ rfl (.f1 i), by rintro h _ _ _ ⟨⟩ ⟨⟩; exact h⟩

@[simp] theorem slotEncodes_two (op : Nat) (m : Mnemonic) (a : Mode) (i : Byte → Instr) :
    SlotEncodes op (two m a i) ↔ ∀ b, encode (i b) = [BitVec.ofNat 8 op, b] :=
  ⟨fun h b => h _ _ _ rfl (.f2 i b), by rintro h _ _ _ ⟨⟩ ⟨⟩; exact h _⟩

@[simp] theorem slotEncodes_three (op : Nat) (m : Mnemonic) (a : Mode) (i : Word → Instr) :
    SlotEncodes op (three m a i) ↔ ∀ w, encode (i w) = [BitVec.ofNat 8 op, lo w, hi w] :=
  ⟨fun h w => h _ _ _ rfl (.f3 i w), by rintro h _ _ _ ⟨⟩ ⟨⟩; exact h _⟩

/-- The elements of a list meet `Q`, each with its number: the first has `n`, and each next one `d` more. -/
def AllFrom {α : Type} (Q : Nat → α → Prop) (d : Nat) : Nat → List α → Prop
  | _, [] => True
  | n, x :: xs => Q n x ∧ AllFrom Q d (n + d) xs

theorem AllFrom.getD {α : Type} {Q : Nat → α → Prop} {d : Nat} {z : α} (hz : ∀ n, Q n z) (k : Nat) {n : Nat} {xs : List α}
    (h : AllFrom Q d n xs) : Q (n + d * k) (xs.getD k z) := by
  induction xs generalizing n k with
  | nil => exact hz _
  | cons x xs ih =>
    obtain ⟨head, tail⟩ := h
    cases k with
    | zero => exact head
    | succ k =>
      have next := ih k tail
      rwa [Nat.add_assoc, Nat.add_comm d, ← Nat.mul_succ] at next

/-- Each slot of the matrix of R86 against the encoder. -/
theorem romRows_encode : AllFrom (AllFrom SlotEncodes 1) 16 0 romRows := by
  simp [AllFrom, romRows, romRow0, romRow1, romRow2, romRow3, romRow4, romRow5, romRow6, romRow7, romRow8, romRow9, romRowA,
    romRowB, romRowC, romRowD, romRowE, romRowF, encode]

/-- Row and column of the matrix are the two nibbles of byte 0 (R86). -/
theorem rom_slotEncodes (op : Byte) : SlotEncodes op.toNat (rom op) := by
  have row := romRows_encode.getD (z := []) (fun _ => trivial) (op.toNat / 16)
  have slot := row.getD slotEncodes_none (op.toNat % 16)
  rwa [Nat.zero_add, Nat.one_mul, Nat.div_add_mod] at slot

/-- What the operand bytes of a ROM entry complete is encoded as the entry's opcode and these bytes. -/
theorem encode_of_rom {op : Byte} {e : RomEntry} {operands : List Byte} {i : Instr} (hrom : rom op = some e)
    (completes : e.format.Completes operands i) : encode i = op :: operands := by
  have h := rom_slotEncodes op e operands i hrom completes
  rwa [BitVec.ofNat_toNat, BitVec.setWidth_eq] at h

/-! The round trip -/

theorem decode_encode (i : Instr) (rest : List Byte) : decode (encode i ++ rest) = .ok i rest := by
  obtain ⟨op, operands, bytes, e, hrom, completes⟩ := encode_has_slot i
  rw [bytes, decode_eq_ok_iff]
  exact ⟨op, e, operands, hrom, completes, rfl⟩

theorem encode_of_decode {bs : List Byte} {i : Instr} {rest : List Byte} (h : decode bs = .ok i rest) :
    bs = encode i ++ rest := by
  obtain ⟨op, e, operands, hrom, completes, rfl⟩ := (decode_eq_ok_iff bs i rest).1 h
  rw [encode_of_rom hrom completes]

/-- Settles O2: every instruction is in the ROM's slot of its own byte 0, and every slot's instructions are encoded with that
byte. -/
theorem decodeAndEncodeAgree : Obligations.DecodeAndEncodeAgree :=
  ⟨decode_encode, fun _ _ _ => encode_of_decode⟩

/-! The bytes a step fetches -/

/-- No instruction is longer than three bytes (R81). -/
theorem length_encode_le_three (i : Instr) : (encode i).length ≤ 3 := by
  obtain ⟨op, operands, bytes, e, -, completes⟩ := encode_has_slot i
  rw [bytes]
  exact Nat.succ_le_succ completes.length_le_two

/-- The bytes fetched are those from `PC` up, modulo 65536 (R81). -/
theorem getElem?_fetchBytes (s : State) {k : Nat} (h : k < 3) :
    (fetchBytes s)[k]? = some (s.mem.read (s.pc + BitVec.ofNat 16 k)) := by
  match k with
  | 0 => exact congrArg (fun a => some (s.mem.read a)) (BitVec.add_zero s.pc).symm
  | 1 | 2 => rfl

/-- An instruction placed at `PC` is what the bytes there decode to. -/
theorem decode_fetchBytes_of_placed {s : State} {i : Instr}
    (placed : ∀ (k : Nat) (b : Byte), (encode i)[k]? = some b → s.mem.read (s.pc + BitVec.ofNat 16 k) = b) :
    ∃ rest, decode (fetchBytes s) = .ok i rest := by
  have begins : encode i <+: fetchBytes s := by
    rw [List.prefix_iff_getElem?]
    intro k hk
    rw [getElem?_fetchBytes s (hk.trans_le (length_encode_le_three i)), placed k _ (List.getElem?_eq_getElem hk)]
  obtain ⟨rest, bytes⟩ := begins
  exact ⟨rest, bytes ▸ decode_encode i rest⟩

/-- Settles O3: the bytes fetched begin with the instruction's, so they decode to it; a check that services no interrupt leaves
`PC` and memory. -/
theorem placedInstructionIsFetched : Obligations.PlacedInstructionIsFetched := by
  refine fun s i => ⟨decode_fetchBytes_of_placed, fun quiet placed => ?_⟩
  rw [fetchBytes_atFetch_of_noInterrupt quiet]
  exact decode_fetchBytes_of_placed placed

/-! Words and tables -/

/-- Settles O4: each word is the encoding of its instruction, and the two last bytes have no ROM entry. -/
theorem sampleWordsDecode : Obligations.SampleWordsDecode :=
  ⟨decode_encode (.ldaImm 0x42) [], decode_encode (.ldaAbs 0x1234) [], decode_encode (.stxZpy 0xFF) [],
    decode_encode .tax [], decode_encode .php [], decode_encode (.adcIzy 0x40) [], decode_encode (.incAbx 0x2001) [],
    decode_encode (.bitZp 0x10) [], decode_encode .rolAcc [], decode_encode (.jmpInd 0x30FF) [],
    decode_encode (.jsr 0x1234) [], decode_encode (.bne 0xFB) [], decode_encode .brk [], decode_encode .rti [],
    decode_encode .nop [], rfl, rfl⟩

theorem rom_eq_none_iff : ∀ op : Byte, rom op = none ↔ op ∈ illegalOpcodes := by decide

theorem rom_length : ∀ op : Byte, ∀ e ∈ rom op, e.length = lengthOf op := by decide

theorem cycCross_eq_or : ∀ op : Byte, cycCross op = cycBase op ∨ cycCross op = cycBase op + 1 := by decide

theorem cycles_of_rom_eq_none : ∀ op : Byte, rom op = none → cycBase op = 0 ∧ cycCross op = 0 := by decide

/-- Settles O5: each clause is a check of the tables at the 256 values of byte 0, or of the list of R88 alone. -/
theorem opcodeTablesAreTheListedOnes : Obligations.OpcodeTablesAreTheListedOnes :=
  ⟨rom_eq_none_iff, by decide, by decide, rom_length, cycCross_eq_or, by decide, cycles_of_rom_eq_none⟩

end Sys2Proof
end

section
/-! PROOFS. The operand of a read instruction (40_engine R113). -/

open Sys2Proof.Claims

namespace Sys2Proof.Machine

/-- A resolver leaves the memory, so the read at its address gives the byte that memory held before the instruction. -/
theorem isByteAt_of_frame {r : Resolved} {s : State} {width : Word} (h : ResolverFrame r s width) :
    IsByteAt (readAt r) r s :=
  ⟨readAt_value_of_frame h, readAt_crossed r, readAt_state r⟩

/-- Settles O33: the immediate operand is as it is defined, and each other one is a read after a resolver. -/
theorem readOperandsComeFromTheEffectiveAddress : Obligations.ReadOperandsComeFromTheEffectiveAddress :=
  fun s _ z w => ⟨⟨rfl, rfl, rfl⟩, isByteAt_of_frame (addrZp_frame z s), isByteAt_of_frame (addrZpx_frame z s),
    isByteAt_of_frame (addrZpy_frame z s), isByteAt_of_frame (addrAbs_frame w s), isByteAt_of_frame (addrAbx_frame w s),
    isByteAt_of_frame (addrAby_frame w s), isByteAt_of_frame (addrIzx_frame z s), isByteAt_of_frame (addrIzy_frame z s)⟩

end Sys2Proof.Machine
end

section
/-! PROOFS. How a step goes on from its fetch (40_engine R100 to R106): a byte with no ROM entry faults, a byte with one runs its
instruction on what the fetch and the trace snapshot leave; and what these parts change. -/

open Sys2Proof.Claims

namespace Sys2Proof.Machine

/-! What the interrupt check, the fetch and the trace snapshot leave as it was -/

@[simp] theorem atFetch_brkStrict (s : State) : (atFetch s).brkStrict = s.brkStrict := by
  rw [atFetch, checkInterrupts_frame]
  rfl

@[simp] theorem atFetch_trace (s : State) : (atFetch s).trace = s.trace := by
  rw [atFetch, checkInterrupts_frame]
  rfl

theorem fetchOpcode_atFetch_trace (s : State) : (fetchOpcode (atFetch s)).2.trace = s.trace := atFetch_trace s

@[simp] theorem atFetch_decimalEnabled (s : State) : (atFetch s).decimalEnabled = s.decimalEnabled := by
  rw [atFetch, checkInterrupts_frame]
  rfl

/-- The interrupt check charges 7 cycles where it services an interrupt, and none where it does not (R277, R284). -/
theorem atFetch_cycles (s : State) : (atFetch s).cycles = if NoInterrupt s then 0 else 7 := by
  by_cases quiet : NoInterrupt s
  · rw [if_pos quiet, atFetch_of_noInterrupt quiet]
    rfl
  · rw [if_neg quiet, atFetch, checkInterrupts]
    split
    · rfl
    split
    · rfl
    split
    · rfl
    · next reset nmi irq =>
      refine absurd ⟨Bool.eq_false_of_not_eq_true reset, Bool.eq_false_of_not_eq_true nmi, ?_⟩ quiet
      simpa [beginStep, State.flag, imp_iff_not_or] using irq

/-- The fetch and the snapshot change the record and the port's record only (R101, R102). -/
theorem beforeDispatch_frame (s : State) :
    beforeDispatch s =
      { atFetch s with record := (beforeDispatch s).record, accesses := (beforeDispatch s).accesses } :=
  fillRecord_frame (fetched s) (fetchOpcode (atFetch s)).2

@[simp] theorem beforeDispatch_p (s : State) : (beforeDispatch s).p = (atFetch s).p := by
  rw [beforeDispatch_frame]

@[simp] theorem beforeDispatch_cycles (s : State) : (beforeDispatch s).cycles = (atFetch s).cycles := by
  rw [beforeDispatch_frame]

@[simp] theorem beforeDispatch_brkStrict (s : State) : (beforeDispatch s).brkStrict = s.brkStrict := by
  rw [beforeDispatch_frame]
  exact atFetch_brkStrict s

@[simp] theorem beforeDispatch_decimalEnabled (s : State) : (beforeDispatch s).decimalEnabled = s.decimalEnabled := by
  rw [beforeDispatch_frame]
  exact atFetch_decimalEnabled s

/-- The filling of the record makes reads only. -/
theorem write_mem_of_fillRecord {op : Byte} {s : State} {a : Word} {v : Byte}
    (h : Access.write a v ∈ (fillRecord op s).accesses) : Access.write a v ∈ s.accesses := by
  unfold fillRecord at h
  split at h
  · exact (List.mem_append.1 h).resolve_right (write_not_mem_traceReads _ _ _ _)
  · exact h

/-- The fetch and the snapshot make reads only (R101, R102). -/
theorem write_mem_of_beforeDispatch {s : State} {a : Word} {v : Byte}
    (h : Access.write a v ∈ (beforeDispatch s).accesses) : Access.write a v ∈ (atFetch s).accesses :=
  (List.mem_append.1 (write_mem_of_fillRecord h)).resolve_right (by simp)

/-! Decoding by the opcode fetched -/

theorem decode_fetchBytes_of_rom_none {s : State} (h : rom (fetched s) = none) :
    decode (fetchBytes (atFetch s)) = .error (.unimplemented (fetched s)) := by
  unfold fetched at h
  rw [fetchBytes, decode_cons, h]
  rfl

/-- Two operand bytes are enough for every format (R81). -/
theorem exists_completes (f : Format) (b1 b2 : Byte) :
    ∃ operands i rest, f.Completes operands i ∧ [b1, b2] = operands ++ rest := by
  cases f with
  | f1 i => exact ⟨_, _, [b1, b2], .f1 i, rfl⟩
  | f2 i => exact ⟨_, _, [b2], .f2 i b1, rfl⟩
  | f3 i =>
    refine ⟨_, _, [], .f3 i (mkWord b2 b1), ?_⟩
    rw [lo_mkWord, hi_mkWord, List.append_nil]

/-- A byte with a ROM entry decodes, with the bytes after it, to an instruction that has its mnemonic (R84, R86). -/
theorem decode_fetchBytes_of_rom_some {s : State} {e : RomEntry} (h : rom (fetched s) = some e) :
    ∃ i rest, decode (fetchBytes (atFetch s)) = .ok i rest ∧ mnemonicOf i = some e.mnemonic := by
  obtain ⟨operands, i, rest, completes, bytes⟩ :=
    exists_completes e.format ((atFetch s).mem.read ((atFetch s).pc + 1)) ((atFetch s).mem.read ((atFetch s).pc + 2))
  refine ⟨i, rest, (decode_eq_ok_iff _ i rest).2 ⟨_, e, operands, h, completes, congrArg _ bytes⟩, ?_⟩
  rw [mnemonicOf, encode_of_rom h completes]
  exact congrArg (Option.map RomEntry.mnemonic) h

/-! The ways a step can go -/

/-- A step on a byte with no ROM entry faults with what the snapshot leaves (R103). -/
theorem step_of_rom_none {s : State} (h : rom (fetched s) = none) :
    step s = .fault (unimplemented (fetched s) (beforeDispatch s)) :=
  step_of_error (decode_fetchBytes_of_rom_none h)

/-- A step on a byte with a ROM entry runs an instruction of the entry's mnemonic (R104). -/
theorem step_of_rom_some {s : State} {e : RomEntry} (h : rom (fetched s) = some e) :
    ∃ i, mnemonicOf i = some e.mnemonic ∧ step s = mapNext (endStep (fetched s)) (exec i (advance (beforeDispatch s))) := by
  obtain ⟨i, rest, hdecode, hm⟩ := decode_fetchBytes_of_rom_some h
  exact ⟨i, hm, step_of_ok hdecode⟩

/-- A step with a next state executed a decoded instruction that completed (R104, R106). -/
theorem step_eq_next {s t : State} (h : step s = .next t) :
    ∃ i rest u, decode (fetchBytes (atFetch s)) = .ok i rest ∧ exec i (advance (beforeDispatch s)) = .next u ∧
      t = endStep (fetched s) u := by
  cases hdecode : decode (fetchBytes (atFetch s)) with
  | error e =>
    rw [step_of_error hdecode] at h
    cases h
  | ok i rest =>
    rw [step_of_ok hdecode] at h
    cases hx : exec i (advance (beforeDispatch s)) with
    | next u =>
      rw [hx] at h
      exact ⟨i, rest, u, rfl, hx, (Host.Outcome.next.inj h).symm⟩
    | fault f => exact absurd hx (exec_ne_fault i _ f)
    | refused r =>
      rw [hx] at h
      cases h

/-- A step's next state is in the surroundings that the snapshot left, but for what the end of the step writes (R106, R107). -/
theorem step_eq_next_within {s t : State} (h : step s = .next t) :
    ∃ u : State, t = endStep (fetched s) (u.within (beforeDispatch s).surroundings) := by
  obtain ⟨i, rest, v, -, hv, rfl⟩ := step_eq_next h
  obtain ⟨u, -, rfl⟩ := exec_keeps_surroundings hv
  exact ⟨u, rfl⟩

/-- Settles O1: the step of a decoded instruction, by what the behaviour answers; with `TRACE` off the snapshot only drops the
record. -/
theorem stepRunsTheDecodedInstruction : Obligations.StepRunsTheDecodedInstruction := by
  intro s i rest hdecode
  have hstep := step_of_ok hdecode
  refine ⟨fun t (ht : exec i (advance (beforeDispatch s)) = .next t) => ?next,
    fun r (hr : exec i (advance (beforeDispatch s)) = .refused r) => ?refused, fun off => ?untraced⟩
  case next => rw [hstep, ht]; rfl
  case refused => rw [hstep, hr]; rfl
  case untraced =>
    exact congrArg advance (fillRecord_off _ ((fetchOpcode_atFetch_trace s).trans off))

/-- Settles O6: the step faults with what the snapshot leaves, and the snapshot changes the two records and makes reads only. -/
theorem unimplementedOpcodeChangesNothing : Obligations.UnimplementedOpcodeChangesNothing := by
  intro s h
  refine ⟨_, step_of_rom_none h, ?frame, beforeDispatch_cycles s, ?charged, fun a v => write_mem_of_beforeDispatch, ?quiet⟩
  case frame => rw [beforeDispatch_frame]
  case charged =>
    rw [atFetch_cycles]
    exact ite_eq_or_eq _ _ _
  case quiet =>
    intro quiet
    rw [beforeDispatch_frame, atFetch_of_noInterrupt quiet]
    rfl

/-- Settles O20: the interrupt check's cycles pass through the behaviour, and the end of the step adds the opcode's. -/
theorem cyclesAreCharged : Obligations.CyclesAreCharged := by
  intro s t h
  obtain ⟨u, rfl⟩ := step_eq_next_within h
  calc (beforeDispatch s).cycles + chargedCycles (fetched s) u.status
      = (if NoInterrupt s then 0 else 7) + chargedCycles (fetched s) u.status := by
        rw [beforeDispatch_cycles, atFetch_cycles]
    _ = _ := (Nat.add_assoc _ _ _).symm

end Sys2Proof.Machine
end

section
/-! PROOFS. Which behaviours complete (45_arithmetic R191, 60_exceptions R272): all but ADC and SBC in decimal mode; and the ends
that a step can have from that (40_engine R107). -/

open Sys2Proof.Claims

namespace Sys2Proof.Machine

/-- The mnemonics of the adder (R190, R192). -/
abbrev IsAdder (m : Mnemonic) : Prop := m = .ADC ∨ m = .SBC

/-- What a behaviour may answer from `s`: a refusal where the adder is in decimal mode, a next state in every other case. -/
inductive Answers (m : Mnemonic) (s : State) : Result → Prop where
  | refused (h : IsAdder m ∧ refusesDecimal s = true) : Answers m s (.refused .decimalArithmetic)
  | next (t : State) (h : ¬(IsAdder m ∧ refusesDecimal s = true)) : Answers m s (.next t)

/-- Whether a behaviour is refused does not hang on `PC` and the accesses, which a resolver changes. -/
theorem Answers.of_frame {m : Mnemonic} {s u : State} {r : Result} {pc : Word} {l : List Access}
    (hu : u = { s with pc := pc, accesses := l }) (h : Answers m u r) : Answers m s r := by
  subst hu
  cases h with
  | refused h => exact .refused h
  | next t h => exact .next t h

/-- Outside the adder a behaviour that ends in a next state answers as it should. -/
theorem Answers.of_not_adder {m : Mnemonic} {s : State} (hm : ¬IsAdder m) (t : State) : Answers m s (.next t) :=
  .next t fun h => hm h.1

/-- The adder tests `P.D` and `DECIMAL_ENABLED` before it adds (R191). -/
theorem addToA_answers {m : Mnemonic} (hm : IsAdder m) (b : Byte) (o : Operand) : Answers m o.state (addToA b o) := by
  unfold addToA
  split
  · next decimal => exact .refused ⟨hm, decimal⟩
  · next binary => exact .next _ fun h => binary h.2

theorem ReadOp.answers {m : Mnemonic} {use : Operand → Result} (h : ReadOp m use) (o : Operand) :
    Answers m o.state (use o) := by
  cases h with
  | adc => exact addToA_answers (.inl rfl) o.value o
  | sbc => exact addToA_answers (.inr rfl) (o.value ^^^ 0xFF) o
  | lda | ldx | ldy | cmp | cpx | cpy | and | ora | eor | bit => exact .of_not_adder (by decide) _

theorem StoreOp.not_adder {m : Mnemonic} {reg : State → Byte} (h : StoreOp m reg) : ¬IsAdder m := by
  cases h with
  | sta | stx | sty => decide

theorem ModifyOp.not_adder {m : Mnemonic} {f : Byte → Byte → Modified} (h : ModifyOp m f) : ¬IsAdder m := by
  cases h with
  | inc | dec | asl | lsr | rol | ror => decide

theorem BranchOp.not_adder {m : Mnemonic} {f : Flag} {v : Bool} (h : BranchOp m f v) : ¬IsAdder m := by
  cases h with
  | bcc | bcs | beq | bmi | bne | bpl | bvc | bvs => decide

theorem ImpliedOp.not_adder {m : Mnemonic} {g : State → State} (h : ImpliedOp m g) : ¬IsAdder m := by
  rintro (rfl | rfl) <;> cases h

/-- A behaviour of any shape but the adder's ends in a next state. -/
theorem Behaves.answers {m : Mnemonic} {b : State → Result} (h : Behaves m b) (s : State) : Answers m s (b s) := by
  cases h with
  | read hu ho hb =>
    obtain ⟨width, frame⟩ := ho.frame s
    rw [hb]
    exact (hu.answers _).of_frame frame
  | store hm hr hb => rw [hb]; exact .of_not_adder hm.not_adder _
  | modify hf hr hb => rw [hb]; exact .of_not_adder hf.not_adder _
  | shiftA hf hb => rw [hb]; exact .of_not_adder hf.not_adder _
  | branch hm off hb =>
    rw [hb, Machine.branch]
    split
    · exact .of_not_adder hm.not_adder _
    · exact .of_not_adder hm.not_adder _
  | jump hr hb => rw [hb]; exact .of_not_adder (by decide) _
  | subroutine hr hb => rw [hb]; exact .of_not_adder (by decide) _
  | implied hg hb => rw [hb]; exact .of_not_adder hg.not_adder _

/-- What an instruction answers, by its mnemonic. -/
theorem exec_answers {i : Instr} {m : Mnemonic} (hm : mnemonicOf i = some m) (s : State) : Answers m s (exec i s) := by
  obtain ⟨m', hm', hb⟩ := exec_behaves i
  obtain rfl : m' = m := Option.some.inj (hm'.symm.trans hm)
  exact hb.answers s

/-- Settles O8: every behaviour has one of the eight shapes, and only the adder's can be refused. -/
theorem everyBehaviourCompletesOutsideDecimalMode : Obligations.EveryBehaviourCompletesOutsideDecimalMode := by
  intro i s
  obtain ⟨m, hm, -⟩ := exec_behaves i
  have decimal : ((mnemonicOf i = some .ADC ∨ mnemonicOf i = some .SBC) ∧ s.flag .D = true ∧ s.decimalEnabled = true) ↔
      (IsAdder m ∧ refusesDecimal s = true) := by
    simp [hm, refusesDecimal]
  have answers := exec_answers hm s
  generalize exec i s = r at answers ⊢
  cases answers with
  | refused h => exact (if_pos (decimal.2 h)).mpr rfl
  | next t h => exact (if_neg (mt decimal.1 h)).mpr ⟨t, rfl⟩

/-- The outcome of a step that ends in a next state: BRK is reported in strict mode (R105, R107). -/
theorem outcome_of_step_eq_next {s t : State} (h : step s = .next t) :
    t.outcome = if s.brkStrict = true ∧ fetched s = 0x00 then .breakExecuted 0x00 else .success := by
  obtain ⟨u, rfl⟩ := step_eq_next_within h
  change stepOutcome (fetched s) _ = _
  have strict : (u.within (beforeDispatch s).surroundings).brkStrict = s.brkStrict := beforeDispatch_brkStrict s
  simp only [stepOutcome, strict, Bool.and_eq_true, beq_iff_eq]
  split
  · next brk => rw [brk.2]
  · rfl

/-- Settles O7: a byte with no ROM entry faults, and one with an entry answers as its instruction does. -/
theorem everyStepEndsInOneOfThreeWays : Obligations.EveryStepEndsInOneOfThreeWays := by
  intro s
  cases hrom : rom (fetched s) with
  | none => exact .inr (.inl ⟨_, step_of_rom_none hrom, (rom_eq_none_iff _).1 hrom⟩)
  | some e =>
    obtain ⟨i, hm, hstep⟩ := step_of_rom_some hrom
    have answers := exec_answers hm (advance (beforeDispatch s))
    generalize exec i (advance (beforeDispatch s)) = r at hstep answers
    cases answers with
    | next u _ =>
      refine .inl ⟨_, hstep, ?_⟩
      rw [outcome_of_step_eq_next hstep]
      split
      · next strict => exact .inr ⟨rfl, strict.1⟩
      · exact .inl rfl
    | refused h =>
      obtain ⟨adder, decimal⟩ := h
      obtain ⟨hD, enabled⟩ : (atFetch s).flag .D = true ∧ s.decimalEnabled = true := by
        simpa [refusesDecimal, State.flag, advance] using decimal
      exact .inr (.inr ⟨hstep, hD, enabled, e, rfl, adder⟩)

end Sys2Proof.Machine
end

section
/-! PROOFS. Strict BRK mode (40_engine R105): the mode goes through a step unread until the outcome. -/

open Sys2Proof.Claims

namespace Sys2Proof.Machine

theorem atFetch_setBrkStrict (b : Bool) (s : State) : atFetch (setBrkStrict b s) = setBrkStrict b (atFetch s) := by
  unfold atFetch checkInterrupts
  simp only [apply_ite (setBrkStrict b)]
  rfl

theorem fetched_setBrkStrict (b : Bool) (s : State) : fetched (setBrkStrict b s) = fetched s := by
  unfold fetched
  rw [atFetch_setBrkStrict]
  rfl

theorem beforeDispatch_setBrkStrict (b : Bool) (s : State) :
    beforeDispatch (setBrkStrict b s) = setBrkStrict b (beforeDispatch s) := by
  unfold beforeDispatch fillRecord
  rw [fetched_setBrkStrict, atFetch_setBrkStrict, apply_ite (setBrkStrict b)]
  rfl

/-- `BRK_STRICT` is a part of an instruction's surroundings, which it does not see (R39). -/
theorem exec_setBrkStrict (i : Instr) (b : Bool) (s : State) :
    exec i (setBrkStrict b s) = mapNext (setBrkStrict b) (exec i s) := by
  rw [exec_eq_bare i s, exec_eq_bare i (setBrkStrict b s)]
  change mapNext _ (exec i s.bare) = _
  cases exec i s.bare with
  | next u | fault f | refused r => rfl

/-- The mode changes a step's next state in itself and the outcome only (R105). -/
theorem step_setBrkStrict {s t : State} (h : step s = .next t) (b : Bool) :
    step (setBrkStrict b s) =
      .next { t with
        brkStrict := b
        outcome := if b = true ∧ fetched s = 0x00 then .breakExecuted 0x00 else .success } := by
  obtain ⟨i, rest, u, hdecode, hu, rfl⟩ := step_eq_next h
  rw [show fetchBytes (atFetch s) = fetchBytes (atFetch (setBrkStrict b s)) by rw [atFetch_setBrkStrict]; rfl] at hdecode
  have hstep : step (setBrkStrict b s) = .next (endStep (fetched s) (setBrkStrict b u)) := by
    rw [step_of_ok hdecode, fetched_setBrkStrict, beforeDispatch_setBrkStrict]
    change mapNext _ (exec i (setBrkStrict b (advance (beforeDispatch s)))) = _
    rw [exec_setBrkStrict, hu]
    rfl
  have outcome := outcome_of_step_eq_next hstep
  rw [fetched_setBrkStrict] at outcome
  rw [hstep]
  exact congrArg (fun o => Host.Outcome.next { endStep (fetched s) u with brkStrict := b, outcome := o }) outcome

/-- The opcode 0x00 is BRK's (R86). -/
theorem decode_of_fetched_brk {s : State} (h : fetched s = 0x00) : ∃ rest, decode (fetchBytes (atFetch s)) = .ok .brk rest := by
  unfold fetched at h
  exact ⟨_, by rw [fetchBytes, h]; rfl⟩

/-- Settles O21: a step answers alike in both modes but for the outcome, and the opcode 0x00 runs BRK to its end. -/
theorem strictModeOnlyReportsBrk : Obligations.StrictModeOnlyReportsBrk := by
  refine fun s => ⟨fun t h => ⟨?success, ?reported⟩, fun t h => ⟨_, step_setBrkStrict h false⟩, fun t strict brk h => ?brk⟩
  case success => simpa using outcome_of_step_eq_next h
  case reported =>
    have fetch : fetched { s with brkStrict := false } = fetched s := fetched_setBrkStrict false s
    have reported := step_setBrkStrict h true
    simp only [fetch, true_and] at reported
    exact reported
  case brk =>
    have outcome := outcome_of_step_eq_next h
    rw [if_pos ⟨strict, brk⟩] at outcome
    obtain ⟨i, rest, u, hdecode, hu, rfl⟩ := step_eq_next h
    obtain ⟨_, hbrk⟩ := decode_of_fetched_brk brk
    obtain ⟨rfl, -⟩ := Decoded.ok.inj (hdecode.symm.trans hbrk)
    refine ⟨u, brk ▸ hu, ?_⟩
    have status : u.status = { pageCrossed := false, branchTaken := false } := by
      obtain rfl := Host.Outcome.next.inj hu
      rfl
    have charged : chargedCycles (fetched s) u.status = 7 := by
      rw [brk, status]
      rfl
    change { u with cycles := u.cycles + chargedCycles (fetched s) u.status, outcome := (endStep (fetched s) u).outcome } = _
    rw [charged, outcome]

end Sys2Proof.Machine
end

section
/-! PROOFS. The Decode Trace record that a step leaves (40_engine R102, 60_exceptions R300, R302). -/

open Sys2Proof.Claims

namespace Sys2Proof.Machine

/-- The record after a step is the one its snapshot left: no behaviour touches it (R41). -/
theorem record_of_step_eq_next {s t : State} (h : step s = .next t) : t.record = (beforeDispatch s).record := by
  obtain ⟨u, rfl⟩ := step_eq_next_within h
  rfl

/-- With `TRACE` on the snapshot's record is of the opcode, the two bytes after it and the registers at the fetch (R102). -/
theorem beforeDispatch_record_on {s : State} (on : s.trace = true) :
    (beforeDispatch s).record =
      some (traceRecord (atFetch s).pc (fetched s) ((atFetch s).mem.read ((atFetch s).pc + 1))
        ((atFetch s).mem.read ((atFetch s).pc + 2)) (formatRegisters (atFetch s))) := by
  rw [beforeDispatch, fillRecord, if_pos ((fetchOpcode_atFetch_trace s).trans on)]
  rfl

theorem beforeDispatch_record_off {s : State} (off : s.trace = false) : (beforeDispatch s).record = none := by
  rw [beforeDispatch, fillRecord_off _ ((fetchOpcode_atFetch_trace s).trans off)]

/-- The record of an opcode with a ROM entry is the slot's mnemonic and the operand in its mode (R300). -/
theorem traceRecord_of_rom_some {op : Byte} {e : RomEntry} (h : rom op = some e) (address : Word) (b1 b2 : Byte)
    (snapshot : Text) :
    traceRecord address op b1 b2 snapshot =
      { address := address, opcode := op, rawBytes := rawBytesText e.mode.operandWidth b1 b2
        mnemonic := mnemonicText e.mnemonic, operandText := operandText e.mode address b1 b2, snapshot := snapshot } := by
  simp only [traceRecord, h]

/-- Settles O22: the record is the snapshot's, whichever way `TRACE` is, and every field of the register text has a fixed
width. -/
theorem traceRecordOfAStep : Obligations.TraceRecordOfAStep := by
  refine ⟨fun s t e on hrom h => ?on, fun s t off h => ?off, fun s => rfl⟩
  case on => rw [record_of_step_eq_next h, beforeDispatch_record_on on, traceRecord_of_rom_some hrom]
  case off => rw [record_of_step_eq_next h, beforeDispatch_record_off off]

end Sys2Proof.Machine
end

section
/-! PROOFS. The bounded `run()` (40_engine R110, R111): one equation for each way its first step can go, and induction on the
bound. -/

namespace Sys2Proof.Machine

section
variable (n : Nat) {s t : State}

theorem run_succ_of_success (h : step s = .next t) (ho : t.outcome = .success) : run (n + 1) s = run n t := by
  simp only [run, h, if_pos ho]

theorem run_succ_of_ne_success (h : step s = .next t) (ho : t.outcome ≠ .success) :
    run (n + 1) s = .ended t.outcome t := by
  simp only [run, h, if_neg ho]

theorem run_succ_of_fault {op : Byte} (h : step s = .fault (.unimplementedOpcode op t)) :
    run (n + 1) s = .ended (.unimplementedOpcode op) t := by
  simp only [run, h]

theorem run_succ_of_refused {r : Refusal} (h : step s = .refused r) : run (n + 1) s = .refused r := by
  simp only [run, h]

end

/-- A run that ended did so at its first outcome that is not Success, which a longer bound reaches too (R110). -/
theorem run_add_of_ended {n : Nat} (m : Nat) {s left : State} {o : StepOutcome} (h : run n s = .ended o left) :
    o ≠ .success ∧ run (n + m) s = .ended o left := by
  induction n generalizing s with
  | zero => cases h
  | succ n ih =>
    rw [Nat.succ_add]
    cases hs : step s with
    | next t =>
      by_cases ho : t.outcome = .success
      · rw [run_succ_of_success n hs ho] at h
        rw [run_succ_of_success _ hs ho]
        exact ih h
      · rw [run_succ_of_ne_success n hs ho] at h
        rw [run_succ_of_ne_success _ hs ho, ← h]
        cases h
        exact ⟨ho, rfl⟩
    | fault f =>
      cases f with
      | unimplementedOpcode op t =>
        rw [run_succ_of_fault n hs] at h
        rw [run_succ_of_fault _ hs, ← h]
        cases h
        exact ⟨StepOutcome.noConfusion, rfl⟩
    | refused r =>
      rw [run_succ_of_refused n hs] at h
      cases h

/-- Settles O24, by induction on the bound and one equation for each way that the first step can go. -/
theorem runEndsAtTheFirstFailure : Obligations.RunEndsAtTheFirstFailure := by
  refine ⟨fun n m s left o h => run_add_of_ended m h, fun n s t => run_succ_of_success n, fun n s t op h ho => ?broke,
    fun n s left op => run_succ_of_fault n⟩
  case broke =>
    rw [run_succ_of_ne_success n h (by rw [ho]; exact StepOutcome.noConfusion), ho]

end Sys2Proof.Machine
end

section
/-! PROOFS. The addressing modes (41_addressing R123 to R134): the effective addresses as numbers, the page check, and what each
resolver answers. -/

open Sys2Proof.Claims

namespace Sys2Proof.Machine

/-! The page check -/

/-- Two words are in the same page where their high bytes are equal (R134). -/
theorem samePage_iff (a b : Word) : samePage a b = true ↔ a.toNat / 256 = b.toNat / 256 := by
  calc samePage a b = true
      ↔ a >>> 8 ^^^ b >>> 8 = 0#16 := by rw [samePage, beq_iff_eq, BitVec.ushiftRight_xor_distrib]; rfl
    _ ↔ a >>> 8 = b >>> 8 := BitVec.xor_eq_zero_iff
    _ ↔ a.toNat / 256 = b.toNat / 256 := by
      rw [← BitVec.toNat_inj, BitVec.toNat_ushiftRight, BitVec.toNat_ushiftRight, Nat.shiftRight_eq_div_pow,
        Nat.shiftRight_eq_div_pow]

/-- A crossing is a high byte that differs from the base's. -/
theorem not_samePage_eq (base ea : Word) : (!samePage base ea) = decide (ea.toNat / 256 ≠ base.toNat / 256) := by
  rw [Bool.eq_iff_iff, Bool.not_eq_true', ← Bool.not_eq_true, samePage_iff, decide_eq_true_iff, ne_comm]

/-! Index and offset -/

theorem byte_add_toNat (a b : Byte) : (a + b).toNat = (a.toNat + b.toNat) % 256 := BitVec.toNat_add a b

/-- An index byte is added unsigned, modulo 65536 (R128, R135). -/
theorem word_add_index_toNat (base : Word) (index : Byte) :
    (base + index.setWidth 16).toNat = (base.toNat + index.toNat) % 65536 := by
  rw [BitVec.toNat_add, BitVec.toNat_setWidth_of_le (by decide)]

/-- An offset byte is added signed, modulo 65536 (R133). -/
theorem word_add_offset_toNat (w : Word) (off : Byte) :
    (w + off.signExtend 16).toNat = (((w.toNat : Int) + off.toInt) % 65536).toNat := by
  have sum : w + off.signExtend 16 = BitVec.ofInt 16 (w.toNat + off.toInt) := by
    rw [BitVec.ofInt_add, BitVec.ofInt_natCast, BitVec.ofNat_toNat, BitVec.setWidth_eq, BitVec.signExtend]
  rw [sum, BitVec.toNat_ofInt]
  rfl

/-! The pointers' second bytes -/

/-- The pointer with its low byte incremented within its page (R130). -/
theorem ofNat_eq_samePageNext (ptr : Word) :
    BitVec.ofNat 16 (ptr.toNat / 256 * 256 + (ptr.toNat + 1) % 256) = samePageNext ptr := by
  apply BitVec.eq_of_toNat_eq
  have := ptr.isLt
  rw [samePageNext, mkWord_toNat, byte_add_one_toNat, hi_toNat, lo_toNat, BitVec.toNat_ofNat]
  omega

/-- A page-zero pointer's address, the index added within page zero (R131). -/
theorem ofNat_eq_zeroPage_add (z x : Byte) : BitVec.ofNat 16 ((z.toNat + x.toNat) % 256) = zeroPage (z + x) := by
  rw [← byte_add_toNat, ofNat_toNat_eq_zeroPage]

/-- The address after a page-zero pointer, within page zero (R131, R132). -/
theorem ofNat_eq_zeroPage_add_one (z : Byte) : BitVec.ofNat 16 ((z.toNat + 1) % 256) = zeroPage (z + 1) := by
  rw [← byte_add_one_toNat, ofNat_toNat_eq_zeroPage]

theorem ofNat_eq_zeroPage_add_add_one (z x : Byte) :
    BitVec.ofNat 16 ((z.toNat + x.toNat + 1) % 256) = zeroPage (z + x + 1) := by
  rw [← ofNat_eq_zeroPage_add_one, byte_add_toNat, Nat.mod_add_mod]

/-! What each resolver answers -/

/-- A resolver's answer, from its frame and its reads. -/
theorem resolves_of_frame {r : Resolved} {s : State} {ea : Nat} {crossed : Bool} {width : Word} {reads : List Access}
    (frame : ResolverFrame r s width) (hreads : r.state.accesses = s.accesses ++ reads) (hea : r.ea.toNat = ea)
    (hcrossed : r.crossed = crossed) : Resolves r s ea crossed width reads :=
  ⟨hea, hcrossed, hreads ▸ frame⟩

/-- An indexed address, after whatever reads gave its base (R128, R129, R132). -/
theorem indexed_resolves {base : Word} {index : Byte} {s u : State} {width : Word} {reads : List Access}
    (frame : ResolverFrame (indexed base index u) s width) (hreads : u.accesses = s.accesses ++ reads) :
    Resolves (indexed base index u) s ((base.toNat + index.toNat) % 65536)
      (decide ((base.toNat + index.toNat) % 65536 / 256 ≠ base.toNat / 256)) width reads := by
  rw [← word_add_index_toNat]
  exact resolves_of_frame frame hreads rfl (not_samePage_eq base _)

theorem addrAbs_accesses (addr : Word) (s : State) :
    (addrAbs addr s).state.accesses = s.accesses ++ [.read s.pc, .read (s.pc + 1)] := by
  rw [addrAbs_state]

theorem addrInd_resolves (ptr : Word) (s : State) :
    Resolves (addrInd ptr s) s (256 * (s.mem.read (samePageNext ptr)).toNat + (s.mem.read ptr).toNat) false 2
      [.read s.pc, .read (s.pc + 1), .read ptr, .read (samePageNext ptr)] :=
  resolves_of_frame (addrInd_frame ptr s) (by rw [addrInd_state]) (mkWord_toNat _ _) rfl

theorem addrIzx_resolves (z : Byte) (s : State) :
    Resolves (addrIzx z s) s
      (256 * (s.mem.read (zeroPage (z + s.x + 1))).toNat + (s.mem.read (zeroPage (z + s.x))).toNat) false 1
      [.read s.pc, .read (zeroPage (z + s.x)), .read (zeroPage (z + s.x + 1))] :=
  resolves_of_frame (addrIzx_frame z s) (by rw [addrIzx_state]) (mkWord_toNat _ _) rfl

theorem addrIzy_resolves (z : Byte) (s : State) {base : Nat} (hbase : (memRead16Zp z s).1.toNat = base) :
    Resolves (addrIzy z s) s ((base + s.y.toNat) % 65536)
      (decide ((base + s.y.toNat) % 65536 / 256 ≠ base / 256)) 1
      [.read s.pc, .read (zeroPage z), .read (zeroPage (z + 1))] := by
  subst hbase
  exact indexed_resolves (addrIzy_frame z s) (congrArg State.accesses (addrIzy_state z s))

theorem addrRel_resolves (off : Byte) (s : State) :
    Resolves (addrRel off s) s (((s.pc.toNat : Int) + 1 + off.toInt) % 65536).toNat
      (decide ((((s.pc.toNat : Int) + 1 + off.toInt) % 65536).toNat / 256 ≠ (s.pc.toNat + 1) % 65536 / 256)) 1
      [.read s.pc] := by
  have next : (s.pc + 1).toNat = (s.pc.toNat + 1) % 65536 := BitVec.toNat_add s.pc 1
  have target : (s.pc + 1 + off.signExtend 16).toNat = (((s.pc.toNat : Int) + 1 + off.toInt) % 65536).toNat := by
    rw [word_add_offset_toNat, next]
    omega
  rw [← target, ← next]
  exact resolves_of_frame (addrRel_frame off s) rfl rfl (not_samePage_eq (s.pc + 1) _)

/-! The statements -/

/-- Settles O29: the sums within page zero are sums of bytes, and the frames and the reads are those of the resolvers. -/
theorem unindexedAndZeroPageModes : Obligations.UnindexedAndZeroPageModes := by
  intro s z h l
  refine ⟨⟨rfl, rfl, ?imm⟩, resolves_of_frame (addrZp_frame z s) rfl (zeroPage_toNat z) rfl,
    resolves_of_frame (addrZpx_frame z s) rfl ?zpx rfl, resolves_of_frame (addrZpy_frame z s) rfl ?zpy rfl,
    resolves_of_frame (addrAbs_frame _ s) (addrAbs_accesses _ s) (mkWord_toNat h l) rfl⟩
  case imm => rw [addrImm_state, List.append_nil]
  case zpx => exact (zeroPage_toNat (z + s.x)).trans (byte_add_toNat z s.x)
  case zpy => exact (zeroPage_toNat (z + s.y)).trans (byte_add_toNat z s.y)

/-- Settles O30: both modes are indexed addresses after the reads of ABS. -/
theorem absoluteIndexedModes : Obligations.AbsoluteIndexedModes := fun s base =>
  ⟨indexed_resolves (addrAbx_frame base s) (addrAbs_accesses base s),
    indexed_resolves (addrAby_frame base s) (addrAbs_accesses base s)⟩

/-- Settles O31: the addresses given as numbers are those that the three resolvers read. -/
theorem indirectModes : Obligations.IndirectModes := by
  intro s ptr z
  refine ⟨?ind, ?izx, ?izy⟩
  case ind =>
    rw [ofNat_eq_samePageNext]
    exact addrInd_resolves ptr s
  case izx =>
    rw [ofNat_eq_zeroPage_add, ofNat_eq_zeroPage_add_add_one]
    exact addrIzx_resolves z s
  case izy =>
    rw [ofNat_toNat_eq_zeroPage, ofNat_eq_zeroPage_add_one]
    exact addrIzy_resolves z s (mkWord_toNat _ _)

/-- Settles O32: the target is the signed sum, and the page check compares high bytes. -/
theorem relativeModeAndSamePage : Obligations.RelativeModeAndSamePage :=
  ⟨fun s off => addrRel_resolves off s, samePage_iff, rfl, rfl⟩

end Sys2Proof.Machine
end

section
/-! PROOFS. The flag functions (42_flags R140 to R150): Z and N of a byte, the adder's sum, carry and overflow as numbers, the
comparison, and the shifts and rotates by one. -/

open Sys2Proof.Claims

namespace Sys2Proof.Machine

/-! One flag, and Z with N -/

theorem setsFlag_setFlag (p : Byte) (f : Flag) (b : Bool) : SetsFlag p (setFlag p f b) f b :=
  ⟨by rw [getFlag_setFlag, if_pos rfl], keepsFlags_setFlag p f b⟩

/-- Writes of two different flags commute (R140). -/
theorem setFlag_comm (p : Byte) {f g : Flag} (h : f ≠ g) (b c : Bool) :
    setFlag (setFlag p f b) g c = setFlag (setFlag p g c) f b := by
  apply status_ext
  intro k
  simp only [getFlag_setFlag]
  by_cases hk : k = f
  · subst hk
    rw [if_neg h, if_pos rfl, if_pos rfl]
  · rw [if_neg hk, if_neg hk]

theorem setsZN_setZN (p v : Byte) : SetsZN p (setZN p v) v :=
  ⟨getFlag_setZN p v .Z, getFlag_setZN p v .N, keepsFlags_setZN p v⟩

/-- `SetZN` as one formula over the whole byte (R142). -/
theorem setZN_eq_masks (p v : Byte) :
    setZN p v = (p &&& 0x7D) ||| (if v = 0 then 0x02 else 0x00) ||| (v &&& 0x80) := by
  apply status_ext
  intro f
  rw [getFlag_setZN]
  by_cases hv : v = 0
  · subst hv
    cases f <;> simp [getFlag, Flag.bit]
  · have hz : (v == 0) = false := beq_false_of_ne hv
    rw [if_neg hv, hz]
    cases f <;> simp [getFlag, Flag.bit]

/-- The zero byte is not negative, so `SetZN` never sets both flags. -/
theorem not_zero_and_negative_setZN (p v : Byte) :
    ¬(getFlag (setZN p v) .Z = true ∧ getFlag (setZN p v) .N = true) := by
  obtain ⟨hz, hn, -⟩ := setsZN_setZN p v
  rw [hz, hn, beq_iff_eq]
  rintro ⟨rfl, negative⟩
  exact absurd negative (by decide)

/-- Settles O34: each function is one flag write or two, and writes of different flags commute. -/
theorem flagFunctionsArePure : Obligations.FlagFunctionsArePure := fun p v _ =>
  ⟨setsFlag_setFlag p .Z _, setsFlag_setFlag p .N _, setsZN_setZN p v, setZN_eq_masks p v,
    setFlag_comm p (by decide) _ _, not_zero_and_negative_setZN p v⟩

/-! The adder -/

theorem bit_le_one (c : Bool) : bit c ≤ 1 := by
  cases c <;> decide

theorem sum16_toNat_bit (a b : Byte) (c : Bool) : (sum16 a b c).toNat = a.toNat + b.toNat + bit c :=
  sum16_toNat a b c

/-- The carry out of the 16-bit sum says that the sum does not fit in a byte (R143). -/
theorem sum16_carry (a b : Byte) (c : Bool) :
    (sum16 a b c).getLsbD 8 = decide (255 < a.toNat + b.toNat + bit c) := by
  have ha := a.isLt
  have hb := b.isLt
  have hc := bit_le_one c
  rw [← BitVec.testBit_toNat, Nat.testBit_eq_decide_div_mod_eq, sum16_toNat_bit, decide_eq_decide]
  omega

/-- A test of a word's bit 7 by its mask. -/
theorem and_0x80_bne_zero (x : Word) : ((x &&& 0x80) != 0) = x.getLsbD 7 := by
  have mask : (0x80 : Word) = BitVec.twoPow 16 7 := rfl
  rw [mask, BitVec.and_twoPow]
  cases x.getLsbD 7 <;> rfl

/-- The formula for overflow says that the operands have one sign and the sum has the other (R144). -/
theorem setOverflowOnAddition_eq (p a b : Byte) (r : Word) :
    setOverflowOnAddition p a b r = setFlag p .V (a.getLsbD 7 == b.getLsbD 7 && a.getLsbD 7 != r.getLsbD 7) := by
  refine congrArg (setFlag p .V) ?_
  simp only [and_0x80_bne_zero, BitVec.getLsbD_and, BitVec.getLsbD_not, BitVec.getLsbD_xor, BitVec.getLsbD_setWidth,
    Nat.reduceLT, decide_true, Bool.true_and]
  cases a.getLsbD 7 <;> cases b.getLsbD 7 <;> rfl

/-- Overflow says that the sum of the signed readings leaves the range of a signed byte (R144). -/
theorem sum16_overflow (a b : Byte) (c : Bool) :
    (a.getLsbD 7 == b.getLsbD 7 && a.getLsbD 7 != (sum16 a b c).getLsbD 7) =
      decide (a.toInt + b.toInt + bit c < -128 ∨ 127 < a.toInt + b.toInt + bit c) := by
  have ha := a.isLt
  have hb := b.isLt
  have hc := bit_le_one c
  rw [Bool.eq_iff_iff, Bool.and_eq_true, beq_iff_eq, bne_iff_ne, decide_eq_true_iff]
  simp only [← BitVec.testBit_toNat, Nat.testBit_eq_decide_div_mod_eq, sum16_toNat_bit, BitVec.toInt_eq_toNat_cond,
    ne_eq, decide_eq_decide]
  split <;> split <;> omega

theorem setsFlag_setCarryOnAddition (p a b : Byte) (c : Bool) :
    SetsFlag p (setCarryOnAddition p (sum16 a b c)) .C (decide (255 < a.toNat + b.toNat + bit c)) :=
  sum16_carry a b c ▸ setsFlag_setFlag p .C _

theorem setsFlag_setOverflowOnAddition (p a b : Byte) (c : Bool) :
    SetsFlag p (setOverflowOnAddition p a b (sum16 a b c)) .V
      (decide (a.toInt + b.toInt + bit c < -128 ∨ 127 < a.toInt + b.toInt + bit c)) := by
  rw [setOverflowOnAddition_eq, sum16_overflow]
  exact setsFlag_setFlag p .V _

theorem add8Result_toNat (a b : Byte) (c : Bool) :
    (add8Result a b c).toNat = (a.toNat + b.toNat + bit c) % 256 := by
  rw [add8Result, BitVec.toNat_setWidth, sum16_toNat_bit]

/-- `Add8` is the binary addition of two bytes and a carry (R146): the carry is written before the overflow, which keeps it, and
`SetZN` keeps both. -/
theorem add8_addsTo (p a b : Byte) (c : Bool) : AddsTo p (add8Flags p a b c) a b (add8Result a b c) c := by
  obtain ⟨hC, -⟩ := setsFlag_setCarryOnAddition p a b c
  obtain ⟨hV, keepsC⟩ := setsFlag_setOverflowOnAddition (setCarryOnAddition p (sum16 a b c)) a b c
  obtain ⟨hZ, hN, keepsCV⟩ :=
    setsZN_setZN (setOverflowOnAddition (setCarryOnAddition p (sum16 a b c)) a b (sum16 a b c)) (add8Result a b c)
  exact ⟨add8Result_toNat a b c, (keepsCV .C (by decide)).trans ((keepsC .C (by decide)).trans hC),
    (keepsCV .V (by decide)).trans hV, hZ, hN, keepsFlags_add8Flags p a b c⟩

/-- Settles O35: bit 8 and the sign bits of the 16-bit sum, read as numbers. -/
theorem adderComputesSumCarryAndOverflow : Obligations.AdderComputesSumCarryAndOverflow := fun p a b c =>
  ⟨add8_addsTo p a b c, setsFlag_setCarryOnAddition p a b c, setsFlag_setOverflowOnAddition p a b c⟩

/-! The comparison -/

/-- The 8-bit difference, as the number that `Compare` takes N from (R149). -/
theorem ofNat_sub_eq_sub (r m : Byte) : BitVec.ofNat 8 (r.toNat + 256 - m.toNat) = r - m := by bv_omega

theorem compareFlags_setsCompare (p r m : Byte) : SetsCompare p (compareFlags p r m) r m := by
  refine ⟨getFlag_compareFlags p r m .C, ?zero, ?negative, keepsFlags_compareFlags p r m⟩
  case zero =>
    have difference : getFlag (compareFlags p r m) .Z = (r - m == 0) := getFlag_compareFlags p r m .Z
    rw [difference, Bool.eq_iff_iff, beq_iff_eq, beq_iff_eq, sub_eq_zero]
  case negative =>
    rw [ofNat_sub_eq_sub]
    exact getFlag_compareFlags p r m .N

/-! The shifts and rotates by one -/

theorem shiftFlags_setsShift (p : Byte) (r : Shifted) : SetsShift p (shiftFlags p r) r.result r.carry :=
  ⟨getFlag_shiftFlags p r .C, getFlag_shiftFlags p r .Z, getFlag_shiftFlags p r .N, keepsFlags_shiftFlags p r⟩

theorem asl_result_toNat (v : Byte) : (asl v).result.toNat = 2 * v.toNat % 256 := by
  calc (asl v).result.toNat = v.toNat <<< 1 % 256 := BitVec.toNat_shiftLeft
    _ = 2 * v.toNat % 256 := by rw [Nat.shiftLeft_eq, Nat.mul_comm, pow_one]

theorem lsr_result_toNat (v : Byte) : (lsr v).result.toNat = v.toNat / 2 := by
  calc (lsr v).result.toNat = v.toNat >>> 1 := BitVec.toNat_ushiftRight v 1
    _ = v.toNat / 2 := Nat.shiftRight_one v.toNat

/-- A bit put in where the byte is clear is a bit added. -/
theorem or_ite_eq_add {x k : Byte} (clear : x &&& k = 0) (c : Bool) :
    (x ||| if c then k else 0x00) = x + if c then k else 0x00 := by
  refine (BitVec.add_eq_or_of_and_eq_zero _ _ ?_).symm
  cases c
  case false => exact BitVec.and_zero
  case true => exact clear

theorem asl_result_bit0_clear (v : Byte) : (asl v).result &&& 0x01 = 0 := by
  ext i hi
  cases i <;> simp [asl]

theorem lsr_result_bit7_clear (v : Byte) : (lsr v).result &&& 0x80 = 0 := by
  ext i hi
  interval_cases i <;> simp [lsr]

/-- A rotate left adds the carry in to `ASL`'s result (R150). -/
theorem rol_result_eq_add (v : Byte) (c : Bool) : (rol v c).result = (asl v).result + if c then 0x01 else 0x00 :=
  or_ite_eq_add (asl_result_bit0_clear v) c

/-- A rotate right adds the carry in, times 128, to `LSR`'s result (R150). -/
theorem ror_result_eq_add (v : Byte) (c : Bool) : (ror v c).result = (lsr v).result + if c then 0x80 else 0x00 :=
  or_ite_eq_add (lsr_result_bit7_clear v) c

theorem rol_result_toNat (v : Byte) (c : Bool) : (rol v c).result.toNat = (2 * v.toNat + bit c) % 256 := by
  rw [rol_result_eq_add, byte_add_toNat, asl_result_toNat, Nat.mod_add_mod]
  cases c <;> rfl

theorem ror_result_toNat (v : Byte) (c : Bool) : (ror v c).result.toNat = v.toNat / 2 + 128 * bit c := by
  rw [ror_result_eq_add, byte_add_toNat, lsr_result_toNat]
  have hv := v.isLt
  cases c <;> simp [bit] <;> omega

/-! Nine rotations -/

/-- The nine bits that a rotate turns: the byte's eight, then the carry. -/
def Shifted.bitAt (r : Shifted) (i : Fin 9) : Bool := if i = 8 then r.carry else r.result.getLsbD i

/-- The nine bits are all there is to a result with its carry. -/
theorem Shifted.ext_bitAt {r q : Shifted} (h : ∀ i, r.bitAt i = q.bitAt i) : r = q := by
  have carry : r.carry = q.carry := h 8
  have result : r.result = q.result := by
    apply BitVec.eq_of_getLsbD_eq
    intro i hi
    have := h ⟨i, by omega⟩
    simpa [bitAt, Fin.ext_iff, hi.ne] using this
  cases r
  cases q
  cases carry
  cases result
  rfl

/-- A rotate left moves every bit up one place, the carry to bit 0 (R150). -/
theorem rol_bitAt (r : Shifted) (i : Fin 9) : (rol r.result r.carry).bitAt (i + 1) = r.bitAt i := by
  obtain ⟨v, c⟩ := r
  fin_cases i <;> cases c <;> simp [Shifted.bitAt, rol]

/-- A rotate right moves every bit down one place, bit 0 to the carry (R150). -/
theorem ror_bitAt (r : Shifted) (i : Fin 9) : (ror r.result r.carry).bitAt (i + -1) = r.bitAt i := by
  obtain ⟨v, c⟩ := r
  have neg : (-1 : Fin 9) = 8 := rfl
  fin_cases i <;> cases c <;> simp [Shifted.bitAt, ror, neg]

/-- `n` turns of the nine bits by `d` places turn them by `n` times `d`. -/
theorem times_bitAt {f : Shifted → Shifted} {d : Fin 9} (turn : ∀ r i, (f r).bitAt (i + d) = r.bitAt i) (n : Nat)
    (r : Shifted) (i : Fin 9) : (times f n r).bitAt (i + n • d) = r.bitAt i := by
  induction n generalizing r i with
  | zero => rw [zero_nsmul, add_zero]; rfl
  | succ n ih =>
    rw [succ_nsmul', ← add_assoc]
    exact (ih (f r) (i + d)).trans (turn r i)

/-- Nine turns by any number of places bring the nine bits back. -/
theorem times_nine_of_turn {f : Shifted → Shifted} {d : Fin 9} (turn : ∀ r i, (f r).bitAt (i + d) = r.bitAt i)
    (r : Shifted) : times f 9 r = r := by
  have full : ∀ d : Fin 9, 9 • d = 0 := by decide
  apply Shifted.ext_bitAt
  intro i
  simpa only [full, add_zero] using times_bitAt turn 9 r i

/-- Settles O36: the results as numbers, and the rotates as turns of nine bits by one place. -/
theorem compareAndShiftFunctions : Obligations.CompareAndShiftFunctions :=
  ⟨compareFlags_setsCompare, fun p v c =>
    ⟨asl_result_toNat v, rfl, lsr_result_toNat v, rfl, rol_result_toNat v c, rfl, ror_result_toNat v c, rfl,
      shiftFlags_setsShift p _, shiftFlags_setsShift p _, shiftFlags_setsShift p _, shiftFlags_setsShift p _,
      times_nine_of_turn rol_bitAt _, times_nine_of_turn ror_bitAt _⟩⟩

end Sys2Proof.Machine
end

section
/-! PROOFS. Loads and stores (43_load_store R160 to R165): what a read instruction leaves after its operand (40_engine R113),
and each form of LDA, LDX, LDY, STA, STX and STY from its encoding and the frame of its addressing mode. -/

open Sys2Proof.Claims

namespace Sys2Proof.Machine

/-- An instruction's cycles are the tables' entries at its opcode byte (R330). -/
theorem encoded_cons {i : Instr} {op : Byte} {operands : List Byte} {base cross : Nat} (hbytes : encode i = op :: operands)
    (hbase : cycBase op = base) (hcross : cycCross op = cross) : Encoded i (op :: operands) base cross :=
  ⟨hbytes, hbase, hcross⟩

/-! A read instruction: what it does to the state its operand's reads leave -/

section
variable {i : Instr} {s : State} {o : Operand} {width : Word}

/-- A behaviour that goes on from its operand by changing at most A, X, Y and P is a read instruction (R113). -/
theorem readsOperand_of_frame {u : State} {post : State → Prop} (hframe : OperandFrame o s width)
    (hexec : exec i s = finish o.crossed u) (hu : u = { o.state with a := u.a, x := u.x, y := u.y, p := u.p })
    (hpost : post (u.setStatus { pageCrossed := o.crossed, branchTaken := false })) : ReadsOperand i s o width post := by
  refine ⟨_, hexec, ?pc, rfl, ?accesses, fun b => ?memory, hpost⟩
  case pc => rw [hu, hframe]; rfl
  case accesses => rw [hu]; rfl
  case memory => rw [hu, hframe]; rfl

theorem setsZN_of_frame (hframe : OperandFrame o s width) (v : Byte) : SetsZN s.p (setZN o.state.p v) v := by
  rw [hframe]
  exact setsZN_setZN s.p v

theorem loadsA_of_setA_setZN {v : Byte} (hframe : OperandFrame o s width)
    (hexec : exec i s = finish o.crossed ((o.state.setA v).setZN v)) : LoadsA i s o width v := by
  refine readsOperand_of_frame hframe hexec rfl ⟨rfl, setsZN_of_frame hframe v, ?frame⟩
  case frame => rw [hframe]; rfl

theorem loadsX_of_setX_setZN {v : Byte} (hframe : OperandFrame o s width)
    (hexec : exec i s = finish o.crossed ((o.state.setX v).setZN v)) : LoadsX i s o width v := by
  refine readsOperand_of_frame hframe hexec rfl ⟨rfl, setsZN_of_frame hframe v, ?frame⟩
  case frame => rw [hframe]; rfl

theorem loadsY_of_setY_setZN {v : Byte} (hframe : OperandFrame o s width)
    (hexec : exec i s = finish o.crossed ((o.state.setY v).setZN v)) : LoadsY i s o width v := by
  refine readsOperand_of_frame hframe hexec rfl ⟨rfl, setsZN_of_frame hframe v, ?frame⟩
  case frame => rw [hframe]; rfl

end

/-! The loads -/

/-- Settles O37: each form is LDA on the operand of its mode, whose frame is the mode's. -/
theorem ldaLoadsA : Obligations.LdaLoadsA := fun s =>
  ⟨fun v => ⟨encoded_cons rfl rfl rfl, loadsA_of_setA_setZN (operandImm_frame v s) rfl⟩,
    fun z => ⟨encoded_cons rfl rfl rfl, loadsA_of_setA_setZN (operandZp_frame z s) rfl⟩,
    fun z => ⟨encoded_cons rfl rfl rfl, loadsA_of_setA_setZN (operandZpx_frame z s) rfl⟩,
    fun w => ⟨encoded_cons rfl rfl rfl, loadsA_of_setA_setZN (operandAbs_frame w s) rfl⟩,
    fun w => ⟨encoded_cons rfl rfl rfl, loadsA_of_setA_setZN (operandAbx_frame w s) rfl⟩,
    fun w => ⟨encoded_cons rfl rfl rfl, loadsA_of_setA_setZN (operandAby_frame w s) rfl⟩,
    fun z => ⟨encoded_cons rfl rfl rfl, loadsA_of_setA_setZN (operandIzx_frame z s) rfl⟩,
    fun z => ⟨encoded_cons rfl rfl rfl, loadsA_of_setA_setZN (operandIzy_frame z s) rfl⟩⟩

/-- Settles O38: each form is LDX or LDY on the operand of its mode, whose frame is the mode's. -/
theorem ldxAndLdyLoad : Obligations.LdxAndLdyLoad := fun s =>
  ⟨fun v => ⟨encoded_cons rfl rfl rfl, loadsX_of_setX_setZN (operandImm_frame v s) rfl⟩,
    fun z => ⟨encoded_cons rfl rfl rfl, loadsX_of_setX_setZN (operandZp_frame z s) rfl⟩,
    fun z => ⟨encoded_cons rfl rfl rfl, loadsX_of_setX_setZN (operandZpy_frame z s) rfl⟩,
    fun w => ⟨encoded_cons rfl rfl rfl, loadsX_of_setX_setZN (operandAbs_frame w s) rfl⟩,
    fun w => ⟨encoded_cons rfl rfl rfl, loadsX_of_setX_setZN (operandAby_frame w s) rfl⟩,
    fun v => ⟨encoded_cons rfl rfl rfl, loadsY_of_setY_setZN (operandImm_frame v s) rfl⟩,
    fun z => ⟨encoded_cons rfl rfl rfl, loadsY_of_setY_setZN (operandZp_frame z s) rfl⟩,
    fun z => ⟨encoded_cons rfl rfl rfl, loadsY_of_setY_setZN (operandZpx_frame z s) rfl⟩,
    fun w => ⟨encoded_cons rfl rfl rfl, loadsY_of_setY_setZN (operandAbs_frame w s) rfl⟩,
    fun w => ⟨encoded_cons rfl rfl rfl, loadsY_of_setY_setZN (operandAbx_frame w s) rfl⟩⟩

/-! The stores -/

/-- Settles O39: each form is a write at the address of its mode, whose frame is the mode's. -/
theorem storesWriteTheirRegister : Obligations.StoresWriteTheirRegister := fun s =>
  ⟨fun z => ⟨encoded_cons rfl rfl rfl, storesByte_of_storeTo rfl (addrZp_frame z s)⟩,
    fun z => ⟨encoded_cons rfl rfl rfl, storesByte_of_storeTo rfl (addrZpx_frame z s)⟩,
    fun w => ⟨encoded_cons rfl rfl rfl, storesByte_of_storeTo rfl (addrAbs_frame w s)⟩,
    fun w => ⟨encoded_cons rfl rfl rfl, storesByte_of_storeTo rfl (addrAbx_frame w s)⟩,
    fun w => ⟨encoded_cons rfl rfl rfl, storesByte_of_storeTo rfl (addrAby_frame w s)⟩,
    fun z => ⟨encoded_cons rfl rfl rfl, storesByte_of_storeTo rfl (addrIzx_frame z s)⟩,
    fun z => ⟨encoded_cons rfl rfl rfl, storesByte_of_storeTo rfl (addrIzy_frame z s)⟩,
    fun z => ⟨encoded_cons rfl rfl rfl, storesByte_of_storeTo rfl (addrZp_frame z s)⟩,
    fun z => ⟨encoded_cons rfl rfl rfl, storesByte_of_storeTo rfl (addrZpy_frame z s)⟩,
    fun w => ⟨encoded_cons rfl rfl rfl, storesByte_of_storeTo rfl (addrAbs_frame w s)⟩,
    fun z => ⟨encoded_cons rfl rfl rfl, storesByte_of_storeTo rfl (addrZp_frame z s)⟩,
    fun z => ⟨encoded_cons rfl rfl rfl, storesByte_of_storeTo rfl (addrZpx_frame z s)⟩,
    fun w => ⟨encoded_cons rfl rfl rfl, storesByte_of_storeTo rfl (addrAbs_frame w s)⟩⟩

end Sys2Proof.Machine
end

section
/-! PROOFS. Transfers and the stack instructions (44_transfer_stack R170 to R185): an implied instruction that leaves memory
alone, by the register it copies into; the two pushes from what `Push` stores (20_memory R57); the two pulls from what `Pull`
answers (R58). -/

open Sys2Proof.Claims

namespace Sys2Proof.Machine

section
variable {i : Instr} {s : State} {v : Byte}

/-! The transfers -/

/-- An implied instruction completes with no page crossing and no branch (R112, R121). -/
theorem implied_of_finish {u : State} {post : State → Prop} (hexec : exec i s = finish false u) (hmem : SameMemory s u)
    (hpost : post (u.setStatus { pageCrossed := false, branchTaken := false })) : Implied i s post :=
  ⟨_, hexec, rfl, hmem, hpost⟩

theorem impliedA_of_setA_setZN (hexec : exec i s = finish false ((s.setA v).setZN v)) : ImpliedA i s v :=
  implied_of_finish hexec (fun _ => rfl) ⟨rfl, setsZN_setZN s.p v, rfl⟩

theorem impliedX_of_setX_setZN (hexec : exec i s = finish false ((s.setX v).setZN v)) : ImpliedX i s v :=
  implied_of_finish hexec (fun _ => rfl) ⟨rfl, setsZN_setZN s.p v, rfl⟩

theorem impliedY_of_setY_setZN (hexec : exec i s = finish false ((s.setY v).setZN v)) : ImpliedY i s v :=
  implied_of_finish hexec (fun _ => rfl) ⟨rfl, setsZN_setZN s.p v, rfl⟩

/-! The pushes -/

/-- A push instruction (R180, R181): one write of `v` to the slot of `SP`, which goes down by one; everything else is as
before. -/
def PushesByte (i : Instr) (s : State) (v : Byte) : Prop :=
  ∃ t, exec i s = .next t ∧ StoresAt s t (stackSlot s.sp) v ∧ t.sp = s.sp - 1 ∧
    t.accesses = s.accesses ++ [.write (stackSlot s.sp) v] ∧ t.status = { pageCrossed := false, branchTaken := false } ∧
    t = { s with sp := t.sp, mem := t.mem, accesses := t.accesses, status := t.status }

theorem pushesByte_of_push (hexec : exec i s = finish false (push v s)) : PushesByte i s v := by
  rw [push_eq] at hexec
  exact ⟨_, hexec, push_storesAt v s, rfl, rfl, rfl, rfl⟩

end

/-! The pulls -/

/-- PLA: everything it does (R182). -/
theorem exec_pla_eq (s : State) :
    exec .pla s = .next
      { s with
        a := s.mem.read (stackSlot (s.sp + 1))
        p := setZN s.p (s.mem.read (stackSlot (s.sp + 1)))
        sp := s.sp + 1
        accesses := s.accesses ++ [.read (stackSlot (s.sp + 1))]
        status := { pageCrossed := false, branchTaken := false } } :=
  congrArg pla (pull_eq s)

/-- PLP: everything it does (R185). -/
theorem exec_plp_eq (s : State) :
    exec .plp s = .next
      { s with
        p := loadedStatus (s.mem.read (stackSlot (s.sp + 1)))
        sp := s.sp + 1
        accesses := s.accesses ++ [.read (stackSlot (s.sp + 1))]
        status := { pageCrossed := false, branchTaken := false } } :=
  congrArg plp (pull_eq s)

/-! The statements -/

/-- Settles O40: five transfers set a register and Z and N from one byte; TXS sets `SP` alone. -/
theorem transfersCopyRegisters : Obligations.TransfersCopyRegisters := fun _ =>
  ⟨⟨encoded_cons rfl rfl rfl, impliedX_of_setX_setZN rfl⟩,
    ⟨encoded_cons rfl rfl rfl, impliedY_of_setY_setZN rfl⟩,
    ⟨encoded_cons rfl rfl rfl, impliedA_of_setA_setZN rfl⟩,
    ⟨encoded_cons rfl rfl rfl, impliedA_of_setA_setZN rfl⟩,
    ⟨encoded_cons rfl rfl rfl, impliedX_of_setX_setZN rfl⟩,
    ⟨encoded_cons rfl rfl rfl, implied_of_finish rfl (fun _ => rfl) rfl⟩⟩

/-- Settles O41: PHA pushes `A`, and PHP the status byte with bits 4 and 5 set. -/
theorem phaAndPhpPush : Obligations.PhaAndPhpPush := fun _ =>
  ⟨⟨encoded_cons rfl rfl rfl, pushesByte_of_push rfl⟩, ⟨encoded_cons rfl rfl rfl, pushesByte_of_push rfl⟩⟩

/-- Settles O42: PLA sets Z and N from the byte pulled, and PLP loads the status from it with B and U hard-wired. -/
theorem plaAndPlpPull : Obligations.PlaAndPlpPull := fun s =>
  ⟨⟨encoded_cons rfl rfl rfl, _, exec_pla_eq s, rfl, rfl, setsZN_setZN _ _, rfl, fun _ => rfl, rfl, rfl⟩,
    ⟨encoded_cons rfl rfl rfl, _, exec_plp_eq s, rfl, getFlag_loadedStatus _, rfl, fun _ => rfl, rfl, rfl⟩⟩

end Sys2Proof.Machine
end

section
/-! PROOFS. Arithmetic (45_arithmetic R190 to R201): the adder on an operand, refused or not (R191), with SBC's difference as a
sum; the comparisons as instructions that write flags alone; INC and DEC as one read and one write (40_engine R113); and the
steps of an index register. -/

open Sys2Proof.Claims

namespace Sys2Proof.Machine

section
variable {i : Instr} {s : State} {o : Operand} {width : Word}

/-! ADC and SBC -/

/-- What the adder leaves when it is not refused (R146, R190). -/
theorem addToA_of_not_refusesDecimal (b : Byte) (h : refusesDecimal o.state = false) :
    addToA b o = finish o.crossed
      ((o.state.setA (add8Result o.state.a b (o.state.flag .C))).setP
        (add8Flags o.state.p o.state.a b (o.state.flag .C))) :=
  if_neg (Bool.eq_false_iff.1 h)

/-- The reads of an operand leave the flag and the input that the adder tests (R191). -/
theorem refusesDecimal_of_frame (hframe : OperandFrame o s width) : refusesDecimal o.state = refusesDecimal s := by
  rw [hframe]
  rfl

/-- An instruction that adds `b` to `A` after its operand's reads, with what the adder's result and flags are known to meet. -/
theorem addsOrRefuses_of_addToA {b : Byte} {sum : Byte → Byte → Prop} (hframe : OperandFrame o s width)
    (hexec : exec i s = addToA b o) (hsum : sum (add8Flags s.p s.a b (s.flag .C)) (add8Result s.a b (s.flag .C))) :
    AddsOrRefuses i s o width sum := by
  have tested := refusesDecimal_of_frame hframe
  refine ⟨fun decimal enabled => ?refused, fun binary => ?adds⟩
  case refused =>
    have refuses : refusesDecimal o.state = true := tested.trans (by rw [refusesDecimal, decimal, enabled]; rfl)
    exact hexec.trans (if_pos refuses)
  case adds =>
    have adds : refusesDecimal o.state = false := tested.trans (Bool.and_eq_false_iff.2 binary)
    rw [addToA_of_not_refusesDecimal b adds] at hexec
    refine readsOperand_of_frame hframe hexec rfl ⟨?sum, ?frame⟩
    case sum => rw [hframe]; exact hsum
    case frame => rw [hframe]; rfl

theorem addsOrRefuses_of_adc (hframe : OperandFrame o s width) (hexec : exec i s = adc o) :
    AddsOrRefuses i s o width fun q r => AddsTo s.p q s.a o.value r (s.flag .C) :=
  addsOrRefuses_of_addToA hframe hexec (add8_addsTo s.p s.a o.value (s.flag .C))

theorem xor_0xFF_toNat (m : Byte) : (m ^^^ 0xFF).toNat = 255 - m.toNat := by
  have ones : (0xFF : Byte) = BitVec.allOnes 8 := rfl
  rw [ones, BitVec.xor_allOnes, BitVec.toNat_not]

theorem xor_0xFF_toInt (m : Byte) : (m ^^^ 0xFF).toInt = -1 - m.toInt := by
  have hm := m.isLt
  simp only [BitVec.toInt_eq_toNat_cond, xor_0xFF_toNat]
  split <;> split <;> omega

/-- Adding the ones' complement and the carry subtracts the byte and the borrow (R192): the sum is the difference plus 256, and
the signed sum is the signed difference. -/
theorem subtractsTo_of_addsTo_complement {p q a m r : Byte} {c : Bool} (h : AddsTo p q a (m ^^^ 0xFF) r c) :
    SubtractsTo p q a m r c := by
  obtain ⟨hr, hC, hV, hZ, hN, keeps⟩ := h
  have hm := m.isLt
  rw [xor_0xFF_toNat] at hr hC
  rw [xor_0xFF_toInt] at hV
  have signed : a.toInt + (-1 - m.toInt) + bit c = a.toInt - m.toInt - (1 - bit c) := by ring
  refine ⟨?difference, hC.trans ?carry, signed ▸ hV, hZ, hN, keeps⟩
  case difference => omega
  case carry =>
    rw [decide_eq_decide]
    omega

theorem addsOrRefuses_of_sbc (hframe : OperandFrame o s width) (hexec : exec i s = sbc o) :
    AddsOrRefuses i s o width fun q r => SubtractsTo s.p q s.a o.value r (s.flag .C) :=
  addsOrRefuses_of_addToA hframe hexec
    (subtractsTo_of_addsTo_complement (add8_addsTo s.p s.a (o.value ^^^ 0xFF) (s.flag .C)))

/-! The comparisons -/

/-- An instruction that goes on from its operand by writing `P` alone. -/
theorem testsFlags_of_setP {q : Byte} {flags : Byte → Prop} (hframe : OperandFrame o s width)
    (hexec : exec i s = finish o.crossed (o.state.setP q)) (hflags : flags q) : TestsFlags i s o width flags := by
  refine readsOperand_of_frame hframe hexec rfl ⟨hflags, ?frame⟩
  case frame => rw [hframe]; rfl

/-- An instruction that compares with its operand a register that the operand's reads leave. -/
theorem testsFlags_of_compareFlags {v reg : Byte} (hframe : OperandFrame o s width) (hreg : v = reg)
    (hexec : exec i s = finish o.crossed (o.state.setP (compareFlags o.state.p v o.value))) :
    TestsFlags i s o width fun q => SetsCompare s.p q reg o.value := by
  refine testsFlags_of_setP hframe hexec ?flags
  case flags => rw [hreg, hframe]; exact compareFlags_setsCompare s.p reg o.value

theorem testsFlags_of_cmp (hframe : OperandFrame o s width) (hexec : exec i s = cmp o) :
    TestsFlags i s o width fun q => SetsCompare s.p q s.a o.value :=
  testsFlags_of_compareFlags hframe (by rw [hframe]) hexec

theorem testsFlags_of_cpx (hframe : OperandFrame o s width) (hexec : exec i s = cpx o) :
    TestsFlags i s o width fun q => SetsCompare s.p q s.x o.value :=
  testsFlags_of_compareFlags hframe (by rw [hframe]) hexec

theorem testsFlags_of_cpy (hframe : OperandFrame o s width) (hexec : exec i s = cpy o) :
    TestsFlags i s o width fun q => SetsCompare s.p q s.y o.value :=
  testsFlags_of_compareFlags hframe (by rw [hframe]) hexec

/-! INC and DEC -/

variable {r : Resolved}

/-- A read-modify-write instruction completes with the byte computed stored at its resolver's address (R113). -/
theorem modifies_of_readModifyWrite {f : Byte → Byte → Modified} {flags : Byte → Prop} (hframe : ResolverFrame r s width)
    (hexec : exec i s = readModifyWrite f r) (hflags : flags (f (s.mem.read r.ea) s.p).p) :
    Modifies i s r width (f (s.mem.read r.ea) s.p).result flags := by
  have hmem : r.state.mem = s.mem := by rw [hframe]
  have hp : r.state.p = s.p := by rw [hframe]
  rw [readModifyWrite_eq, hmem, hp] at hexec
  refine ⟨_, hexec, ⟨Memory.read_write_self _ _ _, fun _ => Memory.read_write_other _ _⟩, hflags, ?pc, rfl, rfl, ?frame⟩
  case pc | frame => rw [hframe]

/-- One more modulo 256, as a number. -/
theorem ofNat_add_one_eq_add_one (m : Byte) : BitVec.ofNat 8 (m.toNat + 1) = m + 1 := rfl

/-- One less modulo 256, as a number. -/
theorem ofNat_add_255_eq_sub_one (m : Byte) : BitVec.ofNat 8 (m.toNat + 255) = m - 1 := by bv_omega

theorem modifies_of_incStep (hframe : ResolverFrame r s width) (hexec : exec i s = readModifyWrite incStep r) :
    Modifies i s r width (BitVec.ofNat 8 ((s.mem.read r.ea).toNat + 1))
      (fun q => SetsZN s.p q (BitVec.ofNat 8 ((s.mem.read r.ea).toNat + 1))) := by
  rw [ofNat_add_one_eq_add_one]
  exact modifies_of_readModifyWrite hframe hexec (setsZN_setZN s.p _)

theorem modifies_of_decStep (hframe : ResolverFrame r s width) (hexec : exec i s = readModifyWrite decStep r) :
    Modifies i s r width (BitVec.ofNat 8 ((s.mem.read r.ea).toNat + 255))
      (fun q => SetsZN s.p q (BitVec.ofNat 8 ((s.mem.read r.ea).toNat + 255))) := by
  rw [ofNat_add_255_eq_sub_one]
  exact modifies_of_readModifyWrite hframe hexec (setsZN_setZN s.p _)

end

/-! The statements -/

/-- Settles O43: each form is the adder on the operand of its mode. -/
theorem adcAddsWithCarry : Obligations.AdcAddsWithCarry := fun s =>
  ⟨fun v => ⟨encoded_cons rfl rfl rfl, addsOrRefuses_of_adc (operandImm_frame v s) rfl⟩,
    fun z => ⟨encoded_cons rfl rfl rfl, addsOrRefuses_of_adc (operandZp_frame z s) rfl⟩,
    fun z => ⟨encoded_cons rfl rfl rfl, addsOrRefuses_of_adc (operandZpx_frame z s) rfl⟩,
    fun w => ⟨encoded_cons rfl rfl rfl, addsOrRefuses_of_adc (operandAbs_frame w s) rfl⟩,
    fun w => ⟨encoded_cons rfl rfl rfl, addsOrRefuses_of_adc (operandAbx_frame w s) rfl⟩,
    fun w => ⟨encoded_cons rfl rfl rfl, addsOrRefuses_of_adc (operandAby_frame w s) rfl⟩,
    fun z => ⟨encoded_cons rfl rfl rfl, addsOrRefuses_of_adc (operandIzx_frame z s) rfl⟩,
    fun z => ⟨encoded_cons rfl rfl rfl, addsOrRefuses_of_adc (operandIzy_frame z s) rfl⟩⟩

/-- Settles O44: each form is the adder on the complement of the operand of its mode, which subtracts. -/
theorem sbcSubtractsWithBorrow : Obligations.SbcSubtractsWithBorrow := fun s =>
  ⟨fun v => ⟨encoded_cons rfl rfl rfl, addsOrRefuses_of_sbc (operandImm_frame v s) rfl⟩,
    fun z => ⟨encoded_cons rfl rfl rfl, addsOrRefuses_of_sbc (operandZp_frame z s) rfl⟩,
    fun z => ⟨encoded_cons rfl rfl rfl, addsOrRefuses_of_sbc (operandZpx_frame z s) rfl⟩,
    fun w => ⟨encoded_cons rfl rfl rfl, addsOrRefuses_of_sbc (operandAbs_frame w s) rfl⟩,
    fun w => ⟨encoded_cons rfl rfl rfl, addsOrRefuses_of_sbc (operandAbx_frame w s) rfl⟩,
    fun w => ⟨encoded_cons rfl rfl rfl, addsOrRefuses_of_sbc (operandAby_frame w s) rfl⟩,
    fun z => ⟨encoded_cons rfl rfl rfl, addsOrRefuses_of_sbc (operandIzx_frame z s) rfl⟩,
    fun z => ⟨encoded_cons rfl rfl rfl, addsOrRefuses_of_sbc (operandIzy_frame z s) rfl⟩⟩

/-- Settles O45: each form is a comparison of its register with the operand of its mode. -/
theorem comparesSetCarryZeroNegative : Obligations.ComparesSetCarryZeroNegative := fun s =>
  ⟨fun v => ⟨encoded_cons rfl rfl rfl, testsFlags_of_cmp (operandImm_frame v s) rfl⟩,
    fun z => ⟨encoded_cons rfl rfl rfl, testsFlags_of_cmp (operandZp_frame z s) rfl⟩,
    fun z => ⟨encoded_cons rfl rfl rfl, testsFlags_of_cmp (operandZpx_frame z s) rfl⟩,
    fun w => ⟨encoded_cons rfl rfl rfl, testsFlags_of_cmp (operandAbs_frame w s) rfl⟩,
    fun w => ⟨encoded_cons rfl rfl rfl, testsFlags_of_cmp (operandAbx_frame w s) rfl⟩,
    fun w => ⟨encoded_cons rfl rfl rfl, testsFlags_of_cmp (operandAby_frame w s) rfl⟩,
    fun z => ⟨encoded_cons rfl rfl rfl, testsFlags_of_cmp (operandIzx_frame z s) rfl⟩,
    fun z => ⟨encoded_cons rfl rfl rfl, testsFlags_of_cmp (operandIzy_frame z s) rfl⟩,
    fun v => ⟨encoded_cons rfl rfl rfl, testsFlags_of_cpx (operandImm_frame v s) rfl⟩,
    fun z => ⟨encoded_cons rfl rfl rfl, testsFlags_of_cpx (operandZp_frame z s) rfl⟩,
    fun w => ⟨encoded_cons rfl rfl rfl, testsFlags_of_cpx (operandAbs_frame w s) rfl⟩,
    fun v => ⟨encoded_cons rfl rfl rfl, testsFlags_of_cpy (operandImm_frame v s) rfl⟩,
    fun z => ⟨encoded_cons rfl rfl rfl, testsFlags_of_cpy (operandZp_frame z s) rfl⟩,
    fun w => ⟨encoded_cons rfl rfl rfl, testsFlags_of_cpy (operandAbs_frame w s) rfl⟩⟩

/-- Settles O46: each form steps the byte at the address of its mode, whose frame is the mode's. -/
theorem incAndDecStepMemory : Obligations.IncAndDecStepMemory := fun s =>
  ⟨fun z => ⟨encoded_cons rfl rfl rfl, modifies_of_incStep (addrZp_frame z s) rfl⟩,
    fun z => ⟨encoded_cons rfl rfl rfl, modifies_of_incStep (addrZpx_frame z s) rfl⟩,
    fun w => ⟨encoded_cons rfl rfl rfl, modifies_of_incStep (addrAbs_frame w s) rfl⟩,
    fun w => ⟨encoded_cons rfl rfl rfl, modifies_of_incStep (addrAbx_frame w s) rfl⟩,
    fun z => ⟨encoded_cons rfl rfl rfl, modifies_of_decStep (addrZp_frame z s) rfl⟩,
    fun z => ⟨encoded_cons rfl rfl rfl, modifies_of_decStep (addrZpx_frame z s) rfl⟩,
    fun w => ⟨encoded_cons rfl rfl rfl, modifies_of_decStep (addrAbs_frame w s) rfl⟩,
    fun w => ⟨encoded_cons rfl rfl rfl, modifies_of_decStep (addrAbx_frame w s) rfl⟩⟩

/-- Settles O47: the register and its Z and N are set from one byte, which is the step of the register. -/
theorem indexRegistersStep : Obligations.IndexRegistersStep := by
  intro s
  simp only [ofNat_add_one_eq_add_one, ofNat_add_255_eq_sub_one]
  exact ⟨⟨encoded_cons rfl rfl rfl, impliedX_of_setX_setZN rfl⟩,
    ⟨encoded_cons rfl rfl rfl, impliedY_of_setY_setZN rfl⟩,
    ⟨encoded_cons rfl rfl rfl, impliedX_of_setX_setZN rfl⟩,
    ⟨encoded_cons rfl rfl rfl, impliedY_of_setY_setZN rfl⟩⟩

end Sys2Proof.Machine
end

section
/-! PROOFS. Logical, bit-test, shift and rotate instructions (46_logic_shift R210 to R217): AND, ORA and EOR as loads of `A`
with the combined byte; BIT as three flag writes; and a shift or rotate as a step on a byte, which is `A` in the accumulator
form (41_addressing R122) and the byte at the effective address in the memory forms (40_engine R113). -/

open Sys2Proof.Claims

namespace Sys2Proof.Machine

section
variable {i : Instr} {s : State} {o : Operand} {r : Resolved} {width : Word}

/-! AND, ORA and EOR -/

/-- An instruction that loads `A` with `op` of `A`, which its operand's reads leave, and the operand. -/
theorem loadsA_of_combine (op : Byte → Byte → Byte) (hframe : OperandFrame o s width)
    (hexec : exec i s =
      finish o.crossed ((o.state.setA (op o.state.a o.value)).setZN (op o.state.a o.value))) :
    LoadsA i s o width (op s.a o.value) := by
  have ha : o.state.a = s.a := by rw [hframe]
  rw [ha] at hexec
  exact loadsA_of_setA_setZN hframe hexec

theorem loadsA_of_andA (hframe : OperandFrame o s width) (hexec : exec i s = andA o) :
    LoadsA i s o width (s.a &&& o.value) :=
  loadsA_of_combine (· &&& ·) hframe hexec

theorem loadsA_of_oraA (hframe : OperandFrame o s width) (hexec : exec i s = oraA o) :
    LoadsA i s o width (s.a ||| o.value) :=
  loadsA_of_combine (· ||| ·) hframe hexec

theorem loadsA_of_eorA (hframe : OperandFrame o s width) (hexec : exec i s = eorA o) :
    LoadsA i s o width (s.a ^^^ o.value) :=
  loadsA_of_combine (· ^^^ ·) hframe hexec

/-! BIT -/

/-- BIT writes Z, N and V one after the other, and each write keeps the flags before it (R213). -/
theorem testsFlags_of_bitTest (hframe : OperandFrame o s width) (hexec : exec i s = bitTest o) :
    TestsFlags i s o width fun q =>
      getFlag q .Z = ((s.a &&& o.value) == 0) ∧ getFlag q .N = o.value.getLsbD 7 ∧
      getFlag q .V = o.value.getLsbD 6 ∧ KeepsFlagsBut s.p q [.Z, .N, .V] := by
  refine testsFlags_of_setP hframe hexec ⟨?zero, ?negative, ?overflow, ?others⟩
  case zero =>
    have ha : o.state.a = s.a := by rw [hframe]
    simp [getFlag_setFlag, ha]
  case negative => simp [getFlag_setFlag]
  case overflow => simp [getFlag_setFlag]
  case others =>
    have hp : o.state.p = s.p := by rw [hframe]
    have order : ∀ g ∈ [Flag.V, .Z, .N], g ∈ [Flag.Z, .N, .V] := by decide
    rw [hp]
    exact fun g hg => keepsFlags_bitTest s.p _ _ _ g (mt (order g) hg)

/-! The shifts and rotates -/

/-- A step on a byte gives `n` and sets the flags of a shift to `n` with carry out `c`. -/
def ShiftsTo (m : Modified) (p n : Byte) (c : Bool) : Prop := m.result = n ∧ SetsShift p m.p n c

/-- A step that gives a shift's result and sets its flags shifts to the number that the result is. -/
theorem shiftsTo_of_result {n : Byte} (p : Byte) {q : Shifted} (hn : q.result = n) :
    ShiftsTo { result := q.result, p := shiftFlags p q } p n q.carry :=
  ⟨hn, hn ▸ shiftFlags_setsShift p q⟩

theorem aslStep_shiftsTo (m p : Byte) : ShiftsTo (aslStep m p) p (BitVec.ofNat 8 (2 * m.toNat)) (m.getLsbD 7) :=
  shiftsTo_of_result p (BitVec.eq_of_toNat_eq (asl_result_toNat m))

theorem lsrStep_shiftsTo (m p : Byte) : ShiftsTo (lsrStep m p) p (BitVec.ofNat 8 (m.toNat / 2)) (m.getLsbD 0) :=
  shiftsTo_of_result p (BitVec.toNat_eq_nat.1 (lsr_result_toNat m)).2

theorem rolStep_shiftsTo (m p : Byte) :
    ShiftsTo (rolStep m p) p (BitVec.ofNat 8 (2 * m.toNat + bit (getFlag p .C))) (m.getLsbD 7) :=
  shiftsTo_of_result p (BitVec.eq_of_toNat_eq (rol_result_toNat m _))

theorem rorStep_shiftsTo (m p : Byte) :
    ShiftsTo (rorStep m p) p (BitVec.ofNat 8 (m.toNat / 2 + 128 * bit (getFlag p .C))) (m.getLsbD 0) :=
  shiftsTo_of_result p (BitVec.toNat_eq_nat.1 (ror_result_toNat m _)).2

variable {f : Byte → Byte → Modified} {n : Byte} {c : Bool}

theorem shiftsA_of_shiftsTo (hexec : exec i s = accumulatorShift f s) (h : ShiftsTo (f s.a s.p) s.p n c) :
    ShiftsA i s n c := by
  obtain ⟨result, flags⟩ := h
  exact implied_of_finish hexec (fun _ => rfl) ⟨result, flags, rfl⟩

theorem modifies_of_shiftsTo (hframe : ResolverFrame r s width) (hexec : exec i s = readModifyWrite f r)
    (h : ShiftsTo (f (s.mem.read r.ea) s.p) s.p n c) : Modifies i s r width n fun q => SetsShift s.p q n c := by
  obtain ⟨rfl, flags⟩ := h
  exact modifies_of_readModifyWrite hframe hexec flags

end

/-! The statements -/

/-- Settles O48: each form loads `A` with the bitwise result on the operand of its mode. -/
theorem logicalInstructions : Obligations.LogicalInstructions := fun s =>
  ⟨fun v => ⟨encoded_cons rfl rfl rfl, loadsA_of_andA (operandImm_frame v s) rfl⟩,
    fun z => ⟨encoded_cons rfl rfl rfl, loadsA_of_andA (operandZp_frame z s) rfl⟩,
    fun z => ⟨encoded_cons rfl rfl rfl, loadsA_of_andA (operandZpx_frame z s) rfl⟩,
    fun w => ⟨encoded_cons rfl rfl rfl, loadsA_of_andA (operandAbs_frame w s) rfl⟩,
    fun w => ⟨encoded_cons rfl rfl rfl, loadsA_of_andA (operandAbx_frame w s) rfl⟩,
    fun w => ⟨encoded_cons rfl rfl rfl, loadsA_of_andA (operandAby_frame w s) rfl⟩,
    fun z => ⟨encoded_cons rfl rfl rfl, loadsA_of_andA (operandIzx_frame z s) rfl⟩,
    fun z => ⟨encoded_cons rfl rfl rfl, loadsA_of_andA (operandIzy_frame z s) rfl⟩,
    fun v => ⟨encoded_cons rfl rfl rfl, loadsA_of_oraA (operandImm_frame v s) rfl⟩,
    fun z => ⟨encoded_cons rfl rfl rfl, loadsA_of_oraA (operandZp_frame z s) rfl⟩,
    fun z => ⟨encoded_cons rfl rfl rfl, loadsA_of_oraA (operandZpx_frame z s) rfl⟩,
    fun w => ⟨encoded_cons rfl rfl rfl, loadsA_of_oraA (operandAbs_frame w s) rfl⟩,
    fun w => ⟨encoded_cons rfl rfl rfl, loadsA_of_oraA (operandAbx_frame w s) rfl⟩,
    fun w => ⟨encoded_cons rfl rfl rfl, loadsA_of_oraA (operandAby_frame w s) rfl⟩,
    fun z => ⟨encoded_cons rfl rfl rfl, loadsA_of_oraA (operandIzx_frame z s) rfl⟩,
    fun z => ⟨encoded_cons rfl rfl rfl, loadsA_of_oraA (operandIzy_frame z s) rfl⟩,
    fun v => ⟨encoded_cons rfl rfl rfl, loadsA_of_eorA (operandImm_frame v s) rfl⟩,
    fun z => ⟨encoded_cons rfl rfl rfl, loadsA_of_eorA (operandZp_frame z s) rfl⟩,
    fun z => ⟨encoded_cons rfl rfl rfl, loadsA_of_eorA (operandZpx_frame z s) rfl⟩,
    fun w => ⟨encoded_cons rfl rfl rfl, loadsA_of_eorA (operandAbs_frame w s) rfl⟩,
    fun w => ⟨encoded_cons rfl rfl rfl, loadsA_of_eorA (operandAbx_frame w s) rfl⟩,
    fun w => ⟨encoded_cons rfl rfl rfl, loadsA_of_eorA (operandAby_frame w s) rfl⟩,
    fun z => ⟨encoded_cons rfl rfl rfl, loadsA_of_eorA (operandIzx_frame z s) rfl⟩,
    fun z => ⟨encoded_cons rfl rfl rfl, loadsA_of_eorA (operandIzy_frame z s) rfl⟩⟩

/-- Settles O49: both forms are BIT's flag writes on the operand of their mode. -/
theorem bitTestsMemory : Obligations.BitTestsMemory := fun s =>
  ⟨fun z => ⟨encoded_cons rfl rfl rfl, testsFlags_of_bitTest (operandZp_frame z s) rfl⟩,
    fun w => ⟨encoded_cons rfl rfl rfl, testsFlags_of_bitTest (operandAbs_frame w s) rfl⟩⟩

/-- Settles O50: each form is the shift's step on `A` or on the byte at the address of its mode. -/
theorem shiftsMoveOneBitToCarry : Obligations.ShiftsMoveOneBitToCarry := fun s =>
  ⟨⟨encoded_cons rfl rfl rfl, shiftsA_of_shiftsTo rfl (aslStep_shiftsTo s.a s.p)⟩,
    fun z => ⟨encoded_cons rfl rfl rfl, modifies_of_shiftsTo (addrZp_frame z s) rfl (aslStep_shiftsTo _ s.p)⟩,
    fun z => ⟨encoded_cons rfl rfl rfl, modifies_of_shiftsTo (addrZpx_frame z s) rfl (aslStep_shiftsTo _ s.p)⟩,
    fun w => ⟨encoded_cons rfl rfl rfl, modifies_of_shiftsTo (addrAbs_frame w s) rfl (aslStep_shiftsTo _ s.p)⟩,
    fun w => ⟨encoded_cons rfl rfl rfl, modifies_of_shiftsTo (addrAbx_frame w s) rfl (aslStep_shiftsTo _ s.p)⟩,
    ⟨encoded_cons rfl rfl rfl, shiftsA_of_shiftsTo rfl (lsrStep_shiftsTo s.a s.p)⟩,
    fun z => ⟨encoded_cons rfl rfl rfl, modifies_of_shiftsTo (addrZp_frame z s) rfl (lsrStep_shiftsTo _ s.p)⟩,
    fun z => ⟨encoded_cons rfl rfl rfl, modifies_of_shiftsTo (addrZpx_frame z s) rfl (lsrStep_shiftsTo _ s.p)⟩,
    fun w => ⟨encoded_cons rfl rfl rfl, modifies_of_shiftsTo (addrAbs_frame w s) rfl (lsrStep_shiftsTo _ s.p)⟩,
    fun w => ⟨encoded_cons rfl rfl rfl, modifies_of_shiftsTo (addrAbx_frame w s) rfl (lsrStep_shiftsTo _ s.p)⟩⟩

/-- Settles O51: each form is the rotate's step, with `P.C` as it was, on `A` or on the byte at the address of its mode. -/
theorem rotatesGoThroughCarry : Obligations.RotatesGoThroughCarry := fun s =>
  ⟨⟨encoded_cons rfl rfl rfl, shiftsA_of_shiftsTo rfl (rolStep_shiftsTo s.a s.p)⟩,
    fun z => ⟨encoded_cons rfl rfl rfl, modifies_of_shiftsTo (addrZp_frame z s) rfl (rolStep_shiftsTo _ s.p)⟩,
    fun z => ⟨encoded_cons rfl rfl rfl, modifies_of_shiftsTo (addrZpx_frame z s) rfl (rolStep_shiftsTo _ s.p)⟩,
    fun w => ⟨encoded_cons rfl rfl rfl, modifies_of_shiftsTo (addrAbs_frame w s) rfl (rolStep_shiftsTo _ s.p)⟩,
    fun w => ⟨encoded_cons rfl rfl rfl, modifies_of_shiftsTo (addrAbx_frame w s) rfl (rolStep_shiftsTo _ s.p)⟩,
    ⟨encoded_cons rfl rfl rfl, shiftsA_of_shiftsTo rfl (rorStep_shiftsTo s.a s.p)⟩,
    fun z => ⟨encoded_cons rfl rfl rfl, modifies_of_shiftsTo (addrZp_frame z s) rfl (rorStep_shiftsTo _ s.p)⟩,
    fun z => ⟨encoded_cons rfl rfl rfl, modifies_of_shiftsTo (addrZpx_frame z s) rfl (rorStep_shiftsTo _ s.p)⟩,
    fun w => ⟨encoded_cons rfl rfl rfl, modifies_of_shiftsTo (addrAbs_frame w s) rfl (rorStep_shiftsTo _ s.p)⟩,
    fun w => ⟨encoded_cons rfl rfl rfl, modifies_of_shiftsTo (addrAbx_frame w s) rfl (rorStep_shiftsTo _ s.p)⟩⟩

end Sys2Proof.Machine
end

section
/-! PROOFS. Control transfer (47_control R230 to R241): the jumps from their resolver's frame, JSR from the two stores of
`Push16` (20_memory R59), RTS from its pulls, and the branches by their condition. -/

open Sys2Proof.Claims

namespace Sys2Proof.Machine

/-! `SP` two and three slots on, modulo 256 (R57, R58) -/

theorem byte_add_one_one (b : Byte) : b + 1 + 1 = b + 2 := BitVec.add_assoc b 1 1

theorem byte_add_two_one (b : Byte) : b + 2 + 1 = b + 3 := BitVec.add_assoc b 2 1

theorem byte_sub_one_one (b : Byte) : b - 1 - 1 = b - 2 := by bv_omega

theorem byte_sub_two_one (b : Byte) : b - 2 - 1 = b - 3 := by bv_omega

theorem byte_sub_two_add_one (b : Byte) : b - 2 + 1 = b - 1 := by bv_omega

theorem byte_sub_two_add_two (b : Byte) : b - 2 + 2 = b := BitVec.sub_add_cancel b 2

/-- A slot is apart from one a few bytes down, across the wrap too. -/
theorem stackSlot_ne_stackSlot_sub (sp : Byte) {k : Byte} (h : k ≠ 0) : stackSlot sp ≠ stackSlot (sp - k) := by
  rw [ne_eq, stackSlot_inj]
  exact fun e => h (by bv_omega)

/-- What `Push16` leaves in memory (R59): the high byte in the slot of `SP`, the low byte in the one below it. -/
theorem push16_stores (w : Word) (s : State) :
    (push16 w s).mem.read (stackSlot s.sp) = hi w ∧ (push16 w s).mem.read (stackSlot (s.sp - 1)) = lo w ∧
      ∀ b : Word, b ≠ stackSlot s.sp → b ≠ stackSlot (s.sp - 1) → (push16 w s).mem.read b = s.mem.read b := by
  rw [push16_eq]
  refine ⟨?high, Memory.read_write_self _ _ _, fun b high low => ?other⟩
  case high =>
    rw [Memory.read_write_other _ _ (stackSlot_ne_stackSlot_sub s.sp (by decide)), Memory.read_write_self]
  case other => rw [Memory.read_write_other _ _ low, Memory.read_write_other _ _ high]

/-- JSR: everything it does (R231): the two operand reads, then the pushes of the address of its third byte. -/
theorem exec_jsr_eq (w : Word) (s : State) :
    exec (.jsr w) s = .next
      { s with
        mem := (push16 (s.pc + 1) s).mem
        sp := s.sp - 2
        pc := w
        accesses := s.accesses ++
          [.read s.pc, .read (s.pc + 1), .write (stackSlot s.sp) (hi (s.pc + 1)),
            .write (stackSlot (s.sp - 1)) (lo (s.pc + 1))]
        status := { pageCrossed := false, branchTaken := false } } := by
  have lastByte : s.pc + 1 + 1 - 1 = s.pc + 1 := BitVec.add_sub_cancel (s.pc + 1) 1
  change finish false ((push16 ((addrAbs w s).state.pc - 1) (addrAbs w s).state).setPc w) = _
  rw [addrAbs_state, push16_eq, push16_eq, byte_sub_one_one, lastByte, List.append_assoc]
  rfl

/-- RTS: everything it does (R232). -/
theorem exec_rts_eq (s : State) :
    exec .rts s = .next
      { s with
        pc := mkWord (s.mem.read (stackSlot (s.sp + 2))) (s.mem.read (stackSlot (s.sp + 1))) + 1
        sp := s.sp + 2
        accesses := s.accesses ++ [.read (stackSlot (s.sp + 1)), .read (stackSlot (s.sp + 2))]
        status := { pageCrossed := false, branchTaken := false } } := by
  change finish false (returnFromSubroutine s) = _
  rw [returnFromSubroutine_eq, byte_add_one_one]
  rfl

section
variable {i : Instr} {s : State}

/-- A jump instruction (R230): `PC` becomes its resolver's address and nothing else changes. -/
def Jumps (i : Instr) (s : State) (r : Resolved) : Prop :=
  ∃ t, exec i s = .next t ∧ t.pc = r.ea ∧ t.accesses = r.state.accesses ∧
    t.status = { pageCrossed := false, branchTaken := false } ∧ SameMemory s t ∧
    t = { s with pc := t.pc, accesses := t.accesses, status := t.status }

theorem jumps_of_jumpTo {r : Resolved} {width : Word} (hframe : ResolverFrame r s width) (hexec : exec i s = jumpTo r) :
    Jumps i s r := by
  refine ⟨_, hexec, rfl, rfl, rfl, fun b => ?memory, ?frame⟩
  case memory => rw [hframe]; rfl
  case frame => rw [hframe]; rfl

/-- A branch instruction that goes by `cond`, taken or not (R233). -/
theorem branches_of_branch {off : Byte} {cond : Bool} (hexec : exec i s = branch cond (addrRel off s)) :
    Branches i s off cond := by
  cases cond with
  | true => exact ⟨_, hexec, fun _ => ⟨rfl, rfl⟩, Bool.noConfusion, rfl, fun _ => rfl, rfl⟩
  | false => exact ⟨_, hexec, Bool.noConfusion, fun _ => ⟨rfl, rfl⟩, rfl, fun _ => rfl, rfl⟩

end

/-! The statements -/

/-- Settles O52: both forms jump to the address of their mode, whose frame is the mode's. -/
theorem jmpSetsPc : Obligations.JmpSetsPc := fun s =>
  ⟨fun w => ⟨encoded_cons rfl rfl rfl, jumps_of_jumpTo (addrAbs_frame w s) rfl⟩,
    fun w => ⟨encoded_cons rfl rfl rfl, jumps_of_jumpTo (addrInd_frame w s) rfl⟩⟩

/-- Settles O53: the word pushed is the address of the third byte, and the two slots are apart. -/
theorem jsrPushesItsLastByteAddress : Obligations.JsrPushesItsLastByteAddress := by
  refine fun s w => ⟨encoded_cons rfl rfl rfl, ?_⟩
  obtain ⟨high, low, others⟩ := push16_stores (s.pc + 1) s
  exact ⟨_, exec_jsr_eq w s, high, low, others, rfl, rfl, rfl, rfl, rfl⟩

/-- Settles O54: RTS pulls one word, and the word that JSR pushed comes back (R59), one short of the next instruction. -/
theorem rtsReturnsPastThePulledWord : Obligations.RtsReturnsPastThePulledWord := by
  refine fun s => ⟨⟨encoded_cons rfl rfl rfl, _, exec_rts_eq s, rfl, rfl, rfl, rfl, fun _ => rfl, rfl⟩, fun w t h => ?_⟩
  rw [exec_jsr_eq] at h
  obtain rfl := Host.Outcome.next.inj h
  obtain ⟨high, low, -⟩ := push16_stores (s.pc + 1) s
  refine ⟨_, exec_rts_eq _, ?pc, ?sp⟩
  case pc =>
    change mkWord ((push16 (s.pc + 1) s).mem.read (stackSlot (s.sp - 2 + 2)))
      ((push16 (s.pc + 1) s).mem.read (stackSlot (s.sp - 2 + 1))) + 1 = s.pc + 2
    rw [byte_sub_two_add_two, byte_sub_two_add_one, high, low, mkWord_hi_lo]
    exact BitVec.add_assoc s.pc 1 1
  case sp => exact byte_sub_two_add_two s.sp

/-- Settles O55: each branch goes by its flag having its value. -/
theorem branchesFollowTheirFlag : Obligations.BranchesFollowTheirFlag := fun _ =>
  ⟨fun _ => ⟨encoded_cons rfl rfl rfl, branches_of_branch rfl⟩,
    fun _ => ⟨encoded_cons rfl rfl rfl, branches_of_branch rfl⟩,
    fun _ => ⟨encoded_cons rfl rfl rfl, branches_of_branch rfl⟩,
    fun _ => ⟨encoded_cons rfl rfl rfl, branches_of_branch rfl⟩,
    fun _ => ⟨encoded_cons rfl rfl rfl, branches_of_branch rfl⟩,
    fun _ => ⟨encoded_cons rfl rfl rfl, branches_of_branch rfl⟩,
    fun _ => ⟨encoded_cons rfl rfl rfl, branches_of_branch rfl⟩,
    fun _ => ⟨encoded_cons rfl rfl rfl, branches_of_branch rfl⟩⟩

end Sys2Proof.Machine
end

section
/-! PROOFS. System and flag instructions (48_system R250 to R260) and the interrupt entry that BRK shares with IRQ and NMI
(60_exceptions R280): what its three pushes leave in memory, the status bytes pushed, and the return of RTI. -/

open Sys2Proof.Claims

namespace Sys2Proof.Machine

/-! The status bytes pushed -/

/-- The byte that BRK and PHP push (R181, R250): B and U are 1, the other six are the register's. -/
theorem getFlag_pushedByProgram (p : Byte) (g : Flag) :
    getFlag (pushedByProgram p) g = if g = .B then true else if g = .U then true else getFlag p g := by
  cases g <;> simp [getFlag, pushedByProgram, Flag.bit]

/-- The byte that IRQ and NMI entry push (R280): B is 0, U is 1, the other six are the register's. -/
theorem getFlag_pushedByInterrupt (p : Byte) (g : Flag) :
    getFlag (pushedByInterrupt p) g = if g = .B then false else if g = .U then true else getFlag p g := by
  cases g <;> simp [getFlag, pushedByInterrupt, Flag.bit]

theorem keepsFlags_pushedByProgram (p : Byte) : KeepsFlagsBut p (pushedByProgram p) [.B, .U] := by
  intro g hg
  obtain ⟨hb, hu⟩ : g ≠ .B ∧ g ≠ .U := by simpa using hg
  rw [getFlag_pushedByProgram, if_neg hb, if_neg hu]

theorem keepsFlags_pushedByInterrupt (p : Byte) : KeepsFlagsBut p (pushedByInterrupt p) [.B, .U] := by
  intro g hg
  obtain ⟨hb, hu⟩ : g ≠ .B ∧ g ≠ .U := by simpa using hg
  rw [getFlag_pushedByInterrupt, if_neg hb, if_neg hu]

/-! Interrupt entry -/

/-- An entry's pushes are those of a word and, below it, the status byte (R280). -/
theorem entryMemory_eq (returnTo : Word) (status : Byte) (s : State) :
    entryMemory returnTo status s = (push16 returnTo s).mem.write (stackSlot (s.sp - 2)) status := by
  rw [entryMemory, byte_sub_one_one, push16_eq]

/-- What an entry leaves in memory (R280, R250): the word and the status byte in the three slots, no other byte changed. -/
theorem entryMemory_stores (returnTo : Word) (status : Byte) (s : State) :
    (entryMemory returnTo status s).read (stackSlot s.sp) = hi returnTo ∧
      (entryMemory returnTo status s).read (stackSlot (s.sp - 1)) = lo returnTo ∧
      (entryMemory returnTo status s).read (stackSlot (s.sp - 2)) = status ∧
      ∀ b : Word, b ≠ stackSlot s.sp → b ≠ stackSlot (s.sp - 1) → b ≠ stackSlot (s.sp - 2) →
        (entryMemory returnTo status s).read b = s.mem.read b := by
  obtain ⟨high, low, others⟩ := push16_stores returnTo s
  have apart : stackSlot (s.sp - 1) ≠ stackSlot (s.sp - 2) :=
    byte_sub_one_one s.sp ▸ stackSlot_ne_stackSlot_sub (s.sp - 1) (by decide)
  rw [entryMemory_eq]
  refine ⟨?high, ?low, Memory.read_write_self _ _ _, fun b hhigh hlow hstatus => ?other⟩
  case high => rw [Memory.read_write_other _ _ (stackSlot_ne_stackSlot_sub s.sp (by decide)), high]
  case low => rw [Memory.read_write_other _ _ apart, low]
  case other => rw [Memory.read_write_other _ _ hstatus, others b hhigh hlow]

/-- Entering an interrupt (R280, R250): the pushes do not reach a vector outside page one, which is read as memory held it. -/
theorem enterInterrupt_entersInterrupt (returnTo : Word) (status : Byte) {vector : Word} (s : State)
    (hlow : 512 ≤ vector.toNat) (hhigh : 512 ≤ (vector + 1).toNat) :
    EntersInterrupt s (enterInterrupt returnTo status vector s) returnTo status vector := by
  obtain ⟨high, low, pushed, others⟩ := entryMemory_stores returnTo status s
  rw [enterInterrupt_eq, byte_sub_one_one s.sp, byte_sub_two_one, entryMemory_read_outside _ _ _ hlow,
    entryMemory_read_outside _ _ _ hhigh]
  exact ⟨high, low, pushed, others, rfl, setsFlag_setFlag s.p .I true, rfl, rfl, rfl⟩

/-! Return and flags -/

/-- RTI: everything it does (R252). -/
theorem exec_rti_eq (s : State) :
    exec .rti s = .next
      { s with
        p := loadedStatus (s.mem.read (stackSlot (s.sp + 1)))
        pc := mkWord (s.mem.read (stackSlot (s.sp + 3))) (s.mem.read (stackSlot (s.sp + 2)))
        sp := s.sp + 3
        accesses := s.accesses ++
          [.read (stackSlot (s.sp + 1)), .read (stackSlot (s.sp + 2)), .read (stackSlot (s.sp + 3))]
        status := { pageCrossed := false, branchTaken := false } } := by
  change finish false (returnFromInterrupt s) = _
  rw [returnFromInterrupt_eq, byte_add_one_one s.sp, byte_add_two_one]
  rfl

theorem impliedFlag_of_setFlagTo {i : Instr} {s : State} {f : Flag} {b : Bool}
    (hexec : exec i s = finish false (s.setFlagTo f b)) : ImpliedFlag i s f b :=
  implied_of_finish hexec (fun _ => rfl) ⟨setsFlag_setFlag s.p f b, rfl⟩

/-! The statements -/

/-- Settles O56: BRK is an interrupt entry through the vector at 0xFFFE, with the status byte that a program pushes. -/
theorem brkEntersThroughTheIrqVector : Obligations.BrkEntersThroughTheIrqVector := by
  intro s
  have entry : EntersInterrupt s (enterInterrupt (s.pc + 1) (pushedByProgram s.p) irqVector s) (s.pc + 1)
      (pushedByProgram s.p) irqVector := enterInterrupt_entersInterrupt _ _ s (by decide) (by decide)
  refine ⟨encoded_cons rfl rfl rfl, _, rfl, ?entry, rfl, getFlag_pushedByProgram s.p .B,
    getFlag_pushedByProgram s.p .U, keepsFlags_pushedByProgram s.p⟩
  case entry =>
    rw [enterInterrupt_eq] at entry ⊢
    exact entry

/-- Settles O57: RTI loads the status from the first byte pulled, with B and U hard-wired, and `PC` from the next two. -/
theorem rtiReturns : Obligations.RtiReturns := fun s =>
  ⟨encoded_cons rfl rfl rfl, _, exec_rti_eq s, getFlag_loadedStatus _, rfl, rfl, rfl, rfl, fun _ => rfl, rfl⟩

/-- Settles O58: NOP completes on the state as it is, and each flag instruction on the state with its flag written. -/
theorem nopAndFlagInstructions : Obligations.NopAndFlagInstructions := fun _ =>
  ⟨⟨encoded_cons rfl rfl rfl, implied_of_finish rfl (fun _ => rfl) rfl⟩,
    ⟨encoded_cons rfl rfl rfl, impliedFlag_of_setFlagTo rfl⟩,
    ⟨encoded_cons rfl rfl rfl, impliedFlag_of_setFlagTo rfl⟩,
    ⟨encoded_cons rfl rfl rfl, impliedFlag_of_setFlagTo rfl⟩,
    ⟨encoded_cons rfl rfl rfl, impliedFlag_of_setFlagTo rfl⟩,
    ⟨encoded_cons rfl rfl rfl, impliedFlag_of_setFlagTo rfl⟩,
    ⟨encoded_cons rfl rfl rfl, impliedFlag_of_setFlagTo rfl⟩,
    ⟨encoded_cons rfl rfl rfl, impliedFlag_of_setFlagTo rfl⟩⟩

end Sys2Proof.Machine
end

section
/-! PROOFS. Exceptions (60_exceptions R275 to R288): the interrupt check by which latch it services, what the serviced entry leaves
for the fetch, the latches through the rest of the step, and the way back by RTI; and the host's lines and inputs. -/

open Sys2Proof.Claims

namespace Sys2Proof.Machine

/-! The interrupt check (R277) -/

section
variable {s : State}

theorem checkInterrupts_of_reset (hreset : s.resetLine = true) :
    checkInterrupts s = { loadVector resetVector s with resetLine := false, cycles := s.cycles + 7 } :=
  if_pos hreset

theorem checkInterrupts_of_nmi (hreset : s.resetLine = false) (hnmi : s.nmi = true) :
    checkInterrupts s = { interruptSequence nmiVector s with nmi := false, cycles := s.cycles + 7 } := by
  rw [checkInterrupts, if_neg (Bool.eq_false_iff.1 hreset), if_pos hnmi]
  rfl

theorem checkInterrupts_of_irq (hreset : s.resetLine = false) (hnmi : s.nmi = false) (hirq : s.irq = true)
    (unmasked : s.flag .I = false) :
    checkInterrupts s = { interruptSequence irqVector s with irq := false, cycles := s.cycles + 7 } := by
  rw [checkInterrupts, if_neg (Bool.eq_false_iff.1 hreset), if_neg (Bool.eq_false_iff.1 hnmi), if_pos (by simp [hirq, unmasked])]
  rfl

/-- Servicing RESET (R283): `PC` is loaded and RESET cleared; memory, the registers and the other latches stay. -/
theorem atFetch_of_reset (hreset : s.resetLine = true) :
    atFetch s = { s with
      pc := vectorWord s resetVector, resetLine := false, accesses := [.read 0xFFFC, .read 0xFFFD]
      status := (beginStep s).status, cycles := 7, outcome := .success } := by
  rw [atFetch, checkInterrupts_of_reset (s := beginStep s) hreset, loadVector_eq]
  rfl

/-- Servicing NMI (R280): an entry from the state with its outputs cleared; NMI is cleared, RESET is clear and IRQ stays. -/
theorem atFetch_of_nmi (hreset : s.resetLine = false) (hnmi : s.nmi = true) :
    atFetch s = { interruptSequence nmiVector (beginStep s) with nmi := false, cycles := 7 } :=
  checkInterrupts_of_nmi (s := beginStep s) hreset hnmi

theorem atFetch_of_irq (hreset : s.resetLine = false) (hnmi : s.nmi = false) (hirq : s.irq = true)
    (unmasked : s.flag .I = false) :
    atFetch s = { interruptSequence irqVector (beginStep s) with irq := false, cycles := 7 } :=
  checkInterrupts_of_irq (s := beginStep s) hreset hnmi hirq unmasked

/-! Entry by the interrupt sequence (R280) -/

theorem interruptSequence_entersInterrupt {vector : Word} (s : State) (hvector : vector = nmiVector ∨ vector = irqVector) :
    EntersInterrupt s (interruptSequence vector s) s.pc (pushedByInterrupt s.p) vector := by
  rcases hvector with rfl | rfl
  · exact enterInterrupt_entersInterrupt _ _ s (by decide) (by decide)
  · exact enterInterrupt_entersInterrupt _ _ s (by decide) (by decide)

/-- RTI loads back the status byte that the entry pushed, where the register has its hard-wired bits (R287). -/
theorem loadedStatus_pushedByInterrupt {p : Byte} (h : statusHardwired p = true) : loadedStatus (pushedByInterrupt p) = p := by
  obtain ⟨hB, hU⟩ := (statusHardwired_iff p).1 h
  apply status_ext
  intro f
  rw [getFlag_loadedStatus, getFlag_pushedByInterrupt]
  by_cases hb : f = .B
  · rw [hb, hB, if_pos rfl]
  · by_cases hu : f = .U
    · rw [hu, hU, if_neg (by decide), if_pos rfl]
    · rw [if_neg hb, if_neg hu, if_neg hb, if_neg hu]

/-- The latches pass through a step as the interrupt check leaves them (R38). -/
theorem latches_of_step_eq_next {t : State} (h : step s = .next t) :
    t.resetLine = (atFetch s).resetLine ∧ t.nmi = (atFetch s).nmi ∧ t.irq = (atFetch s).irq := by
  obtain ⟨u, rfl⟩ := step_eq_next_within h
  change (beforeDispatch s).resetLine = _ ∧ (beforeDispatch s).nmi = _ ∧ (beforeDispatch s).irq = _
  rw [beforeDispatch_frame]
  exact ⟨rfl, rfl, rfl⟩

end

/-! The statements -/

/-- Settles O15: the four ways the check can go. -/
theorem interruptCheckDecides : Obligations.InterruptCheckDecides := fun _ =>
  ⟨checkInterrupts_of_reset, checkInterrupts_of_nmi, checkInterrupts_of_irq, checkInterrupts_of_noInterrupt⟩

/-- Settles O16: an interrupt entry at each of the two vectors, and the flags of the status byte it pushes. -/
theorem interruptEntry : Obligations.InterruptEntry := fun s =>
  ⟨interruptSequence_entersInterrupt s (.inl rfl), interruptSequence_entersInterrupt s (.inr rfl),
    getFlag_pushedByInterrupt s.p .B, getFlag_pushedByInterrupt s.p .U, keepsFlags_pushedByInterrupt s.p⟩

/-- Settles O17: RESET goes first and leaves the other latches, so the next check finds NMI, and the one after it a masked IRQ. -/
theorem interruptPriority : Obligations.InterruptPriority := by
  refine fun s => ⟨atFetch_of_reset, fun hreset hnmi hirq t ht => ?afterReset, fun hreset hnmi hirq => ?nmiFirst⟩
  case afterReset =>
    obtain ⟨treset, tnmi, tirq⟩ := latches_of_step_eq_next ht
    rw [atFetch_of_reset hreset] at treset tnmi tirq
    replace tnmi := tnmi.trans hnmi
    replace tirq := tirq.trans hirq
    obtain ⟨high, low, -, -, -, -, hpc, -, frame⟩ := interruptSequence_entersInterrupt (beginStep t) (.inl rfl)
    refine ⟨treset, tnmi, tirq, ?_⟩
    have fetch := atFetch_of_nmi treset tnmi
    rw [fetch]
    refine ⟨hpc, high, low, fun u hu => ?_⟩
    obtain ⟨ureset, unmi, uirq⟩ := latches_of_step_eq_next hu
    rw [fetch, frame] at ureset unmi uirq
    exact ⟨unmi, uirq.trans tirq, fun masked => atFetch_of_noInterrupt ⟨ureset.trans treset, unmi, .inr masked⟩⟩
  case nmiFirst =>
    obtain ⟨-, -, -, -, -, ⟨masked, -⟩, hpc, -, frame⟩ := interruptSequence_entersInterrupt (beginStep s) (.inl rfl)
    rw [atFetch_of_nmi hreset hnmi]
    refine ⟨rfl, ?irq, masked, hpc⟩
    case irq =>
      rw [frame]
      exact hirq

/-- Settles O18: RTI pulls what the entry pushed, from the slots that the entry went down. -/
theorem rtiUndoesInterruptEntry : Obligations.RtiUndoesInterruptEntry := by
  intro s vector hvector hp
  obtain ⟨high, low, pushed, others, hsp, -, -, -, frame⟩ := interruptSequence_entersInterrupt s hvector
  have slot1 : (interruptSequence vector s).sp + 1 = s.sp - 2 := by rw [hsp]; bv_omega
  have slot2 : (interruptSequence vector s).sp + 2 = s.sp - 1 := by rw [hsp]; bv_omega
  have slot3 : (interruptSequence vector s).sp + 3 = s.sp := by rw [hsp]; exact BitVec.sub_add_cancel s.sp 3
  refine ⟨_, exec_rti_eq _, ?frame, others⟩
  case frame =>
    rw [slot1, slot2, slot3, high, low, pushed, loadedStatus_pushedByInterrupt hp, mkWord_hi_lo, frame]

/-- Settles O25: by cases on the line; the inputs are as they are defined. -/
theorem hostReachesLinesAndInputs : Obligations.HostReachesLinesAndInputs := by
  refine fun w v b s => ⟨?set, fun hne => ?other, ?frame, rfl, rfl, rfl, rfl, rfl, rfl⟩
  case set | frame => cases w with
    | irq | nmi | reset => rfl
  case other => cases w with
    | irq => cases v with
      | irq => exact absurd rfl hne
      | nmi | reset => rfl
    | nmi => cases v with
      | nmi => exact absurd rfl hne
      | irq | reset => rfl
    | reset => cases v with
      | reset => exact absurd rfl hne
      | irq | nmi => rfl

end Sys2Proof.Machine
end

section
/-! PROOFS. Reset (70_reset_and_hazards R310 to R316) and the interrupt mask between two steps (R326): a step on CLI or SEI,
whatever its interrupt check did, and the check of the step after it. -/

open Sys2Proof.Claims

namespace Sys2Proof.Machine

/-! `reset()` -/

/-- `reset()`: everything it does (R310); of the state before it only the configuration inputs are left. -/
theorem hostReset_eq (r : ResetParams) (m0 : Memory) (s : State) :
    hostReset r m0 s =
      { a := r.a, x := r.x, y := r.y, sp := 0xFD, p := 0x24, pc := mkWord (m0.read 0xFFFD) (m0.read 0xFFFC)
        irq := r.irq, nmi := r.nmi, resetLine := false
        brkStrict := s.brkStrict, trace := s.trace, decimalEnabled := s.decimalEnabled, record := none
        mem := m0, accesses := [.read 0xFFFC, .read 0xFFFD]
        status := { pageCrossed := false, branchTaken := false }, cycles := 0, outcome := .success } := rfl

/-- After `reset()` no IRQ is serviced, for `P.I` is 1 (R314). -/
theorem noInterrupt_hostReset {r : ResetParams} (m0 : Memory) (s : State) (hnmi : r.nmi = false) :
    NoInterrupt (hostReset r m0 s) :=
  ⟨rfl, hnmi, .inr (by change getFlag 0x24 .I = true; decide)⟩

/-- Settles O13: the values are as `reset()` sets them; over a memory of 0xFF bytes the vector is 0xFFFF, and the byte fetched
there has no ROM entry. -/
theorem resetOperation : Obligations.ResetOperation := by
  refine fun r m0 s => ⟨rfl, rfl, rfl, rfl, rfl, rfl, rfl, rfl, rfl, rfl, rfl, rfl, rfl, rfl, rfl, rfl, rfl, rfl,
    fun u hstrict htrace hdecimal => ?inputs, fun hfill hnmi => ?firstStep⟩
  case inputs => rw [hostReset_eq, hostReset_eq, hstrict, htrace, hdecimal]
  case firstStep =>
    have quiet := noInterrupt_hostReset m0 s hnmi
    have hpc : (hostReset r m0 s).pc = 0xFFFF := by
      change mkWord (m0.read 0xFFFD) (m0.read 0xFFFC) = 0xFFFF
      rw [hfill, hfill]
      rfl
    have hop : fetched (hostReset r m0 s) = 0xFF := (fetched_of_noInterrupt quiet).trans (hfill _)
    obtain ⟨left, hstep, -, -, -, -, unchanged⟩ :=
      unimplementedOpcodeChangesNothing (hostReset r m0 s) (by rw [hop]; rfl)
    refine ⟨hpc, left, hop ▸ hstep, ?_⟩
    rw [unchanged quiet]
    exact ⟨hpc, rfl, rfl⟩

/-! CLI and SEI between two interrupt checks -/

/-- A step on a flag instruction, whatever its interrupt check serviced: the flag is written and `PC` is past the opcode (R100,
R106); else only the outputs and the trace record differ from the state the instruction was fetched from. -/
theorem step_of_setFlagTo {s : State} {i : Instr} {rest : List Byte} {f : Flag} {b : Bool}
    (hdecode : decode (fetchBytes (atFetch s)) = .ok i rest) (hexec : ∀ u, exec i u = finish false (u.setFlagTo f b)) :
    ∃ record accesses status cycles outcome, step s = .next { atFetch s with
      pc := (atFetch s).pc + 1, p := setFlag (atFetch s).p f b, record := record, accesses := accesses
      status := status, cycles := cycles, outcome := outcome } := by
  rw [step_of_ok hdecode, hexec, beforeDispatch_frame]
  exact ⟨_, _, _, _, _, rfl⟩

/-- The opcode 0x58 is CLI's (R86). -/
theorem decode_of_fetched_cli {s : State} (h : fetched s = 0x58) : ∃ rest, decode (fetchBytes (atFetch s)) = .ok .cli rest := by
  unfold fetched at h
  exact ⟨_, by rw [fetchBytes, h]; rfl⟩

/-- The opcode 0x78 is SEI's (R86). -/
theorem decode_of_fetched_sei {s : State} (h : fetched s = 0x78) : ∃ rest, decode (fetchBytes (atFetch s)) = .ok .sei rest := by
  unfold fetched at h
  exact ⟨_, by rw [fetchBytes, h]; rfl⟩

theorem flag_setFlag_self (p : Byte) (f : Flag) (b : Bool) : getFlag (setFlag p f b) f = b :=
  (setsFlag_setFlag p f b).1

/-- An IRQ that `P.I` does not mask is serviced: its latch is cleared, `PC` comes from its vector, and the old `PC` is in the two
slots from `SP` down (R277, R280). -/
theorem atFetch_services_irq {s : State} (hreset : s.resetLine = false) (hnmi : s.nmi = false) (hirq : s.irq = true)
    (unmasked : s.flag .I = false) :
    (atFetch s).irq = false ∧ (atFetch s).pc = vectorWord s irqVector ∧
      (atFetch s).mem.read (stackSlot s.sp) = hi s.pc ∧ (atFetch s).mem.read (stackSlot (s.sp - 1)) = lo s.pc := by
  obtain ⟨high, low, -, -, -, -, hpc, -, -⟩ := interruptSequence_entersInterrupt (beginStep s) (.inr rfl)
  rw [atFetch_of_irq hreset hnmi hirq unmasked]
  exact ⟨rfl, hpc, high, low⟩

/-- Settles O19: CLI and SEI have written `P.I` when the step ends, and the next check reads it as it then is. -/
theorem maskChangesHaveNoLatency : Obligations.MaskChangesHaveNoLatency := by
  refine fun s => ⟨fun hreset hnmi hirq masked hop => ?cli, fun quiet hop => ?sei,
    fun hreset hnmi hirq _ hop => ?seiAfterReset⟩
  case cli =>
    have quiet : NoInterrupt s := ⟨hreset, hnmi, .inr masked⟩
    obtain ⟨_, hdecode⟩ := decode_of_fetched_cli ((fetched_of_noInterrupt quiet).trans hop)
    obtain ⟨record, accesses, status, cycles, outcome, hstep⟩ := step_of_setFlagTo hdecode fun _ => rfl
    rw [atFetch_of_noInterrupt quiet] at hstep
    have unmasked := flag_setFlag_self s.p .I false
    exact ⟨_, hstep, rfl, hirq, unmasked, atFetch_services_irq hreset hnmi hirq unmasked⟩
  case sei =>
    obtain ⟨_, hdecode⟩ := decode_of_fetched_sei ((fetched_of_noInterrupt quiet).trans hop)
    obtain ⟨record, accesses, status, cycles, outcome, hstep⟩ := step_of_setFlagTo hdecode fun _ => rfl
    rw [atFetch_of_noInterrupt quiet] at hstep
    obtain ⟨hreset, hnmi, -⟩ := quiet
    have masked := flag_setFlag_self s.p .I true
    exact ⟨_, hstep, rfl, rfl, masked, atFetch_of_noInterrupt ⟨hreset, hnmi, .inr masked⟩,
      atFetch_of_noInterrupt ⟨hreset, hnmi, .inr masked⟩⟩
  case seiAfterReset =>
    have hfetched : fetched s = 0x78 := by
      rw [fetched, atFetch_of_reset hreset]
      exact hop
    obtain ⟨_, hdecode⟩ := decode_of_fetched_sei hfetched
    obtain ⟨record, accesses, status, cycles, outcome, hstep⟩ := step_of_setFlagTo hdecode fun _ => rfl
    rw [atFetch_of_reset hreset] at hstep
    have masked := flag_setFlag_self s.p .I true
    exact ⟨_, hstep, rfl, rfl, hirq, masked, atFetch_of_noInterrupt ⟨rfl, hnmi, .inr masked⟩⟩

end Sys2Proof.Machine
end
